-- ==== Sys2Proof/Word.lean ====
section
/-! DEFINITION. The words of the Hebalon HB4816: a byte of a message and a 24-bit audio sample (spec/10, R170; spec/00, 1.5.4). -/

namespace Sys2Proof

/-- One byte of a message, payload, element or lane cell. -/
abbrev Byte := BitVec 8

/-- One audio slot of a downstream frame: a 24-bit two's complement sample (R122). -/
abbrev Sample := BitVec 24

end Sys2Proof
end

