-- ==== Sys2Proof/Syntax.lean ====
section
/-! DEFINITION. The commands of the block, one constructor for each row of spec/opcode_table.json, and the frames,
cells and headers that are their operands. The table gives no operand fields; the operands are the ones the rules
of each row speak of. -/

namespace Sys2Proof

/-- The 2-bit marker of a lane cell (R122, R152, R169). `fin` is the manual's END. -/
inductive Marker where
  | idle | data | fin | abort
  deriving DecidableEq, Repr

/-- One lane's share of one frame: a marker and a byte (R122, R169). -/
structure Cell where
  marker : Marker
  byte : Byte
  deriving DecidableEq, Repr

/-- A downstream frame, less its sync (R122). `fill` is what the frame carries in its 21 fill bits, in their order of
transmission, most significant bit first (R169; log entry 8). -/
structure DownFrame where
  hop : BitVec 3
  code : BitVec 4
  setting : Cell
  live : Cell
  slots : Vector Sample 32
  fill : BitVec 21 := 0
  deriving DecidableEq, Repr

/-- An upstream frame, less its sync (R123): the reply lane cell, the four status fields and what its 758 fill bits
carry (R169; log entry 8). -/
structure UpFrame where
  reply : Cell
  status : Vector (BitVec 12) 4
  fill : BitVec 758 := 0
  deriving DecidableEq, Repr

/-- What a hunting receiver finds (R124, R127): a valid sync at the expected position of the next one, a valid sync
at any other position, or no valid sync where one was expected. Log entry 7. -/
inductive SyncSeen where
  | atExpected | elsewhere | absent
  deriving DecidableEq, Repr

/-- Bytes 0 and 2 of a message (R150): destination, origin and tag. The kind is the command itself. -/
structure MsgHeader where
  dest : BitVec 4
  origin : BitVec 4
  tag : Byte
  deriving DecidableEq, Repr

/-- The commands: the 43 rows of spec/opcode_table.json, in the table's order. -/
inductive Instr where
  | resetAssert
  | resetRelease
  | headHuntSync (seen : SyncSeen) (hop : BitVec 3)
  | firstLock (hop : BitVec 3)
  | relock (hop : BitVec 3)
  | downstreamFrame (frame : DownFrame)
  | missedFrame
  | headLossOfLock
  | replyStart
  | upstreamFrameReceive (frame : UpFrame)
  | ampLock
  | ampMissedFrame
  | ampLossOfLock
  | run
  | quiet
  | halt
  | clear (hop : BitVec 3)
  | hopMismatchFault (hop : BitVec 3)
  | blockBoundary
  | presenceHoldExpiry (program : Fin 4)
  | liftReleaseStep (zone : Fin 4)
  | staleTimeExpiry
  | failTimeExpiry
  | guardHoldEnd (zone : Fin 4)
  | guardRecoveryStep (zone : Fin 4)
  | rampSegmentClose (unit : Fin 6)
  | crossfadeComplete (slot : Fin 8)
  | crossfadeHandover (slot : Fin 8)
  | startingEnd
  | tableWrite (header : MsgHeader) (payload : List Byte)
  | tableRead (header : MsgHeader) (payload : List Byte)
  | eqSelect (header : MsgHeader) (payload : List Byte)
  | identRead (header : MsgHeader) (payload : List Byte)
  | level (header : MsgHeader) (payload : List Byte)
  | programTrim (header : MsgHeader) (payload : List Byte)
  | balanceFade (header : MsgHeader) (payload : List Byte)
  | mute (header : MsgHeader) (payload : List Byte)
  | speed (header : MsgHeader) (payload : List Byte)
  | cabin (header : MsgHeader) (payload : List Byte)
  | presence (header : MsgHeader) (payload : List Byte)
  | rampControl (header : MsgHeader) (payload : List Byte)
  | statusRead (header : MsgHeader) (payload : List Byte)
  | ampHuntSync (seen : SyncSeen)
  deriving DecidableEq, Repr

end Sys2Proof
end

