-- ==== Sys2Proof/WellFormed.lean ====
section
/-! DEFINITION. What the types of Sys2Proof/Syntax.lean do not already say of a command: a message's payload has
0 to 127 bytes (R150). Every other operand is of its exact width by its type. -/

namespace Sys2Proof

/-- R150: payload length n, 0 to 127. -/
def payloadOk (payload : List Byte) : Bool := payload.length ≤ 127

/-- The well-formed commands. -/
def wellFormed : Instr → Bool
  | .tableWrite _ p => payloadOk p
  | .tableRead _ p => payloadOk p
  | .eqSelect _ p => payloadOk p
  | .identRead _ p => payloadOk p
  | .level _ p => payloadOk p
  | .programTrim _ p => payloadOk p
  | .balanceFade _ p => payloadOk p
  | .mute _ p => payloadOk p
  | .speed _ p => payloadOk p
  | .cabin _ p => payloadOk p
  | .presence _ p => payloadOk p
  | .rampControl _ p => payloadOk p
  | .statusRead _ p => payloadOk p
  | .resetAssert => true
  | .resetRelease => true
  | .headHuntSync _ _ => true
  | .firstLock _ => true
  | .relock _ => true
  | .downstreamFrame _ => true
  | .missedFrame => true
  | .headLossOfLock => true
  | .replyStart => true
  | .upstreamFrameReceive _ => true
  | .ampLock => true
  | .ampMissedFrame => true
  | .ampLossOfLock => true
  | .run => true
  | .quiet => true
  | .halt => true
  | .clear _ => true
  | .hopMismatchFault _ => true
  | .blockBoundary => true
  | .presenceHoldExpiry _ => true
  | .liftReleaseStep _ => true
  | .staleTimeExpiry => true
  | .failTimeExpiry => true
  | .guardHoldEnd _ => true
  | .guardRecoveryStep _ => true
  | .rampSegmentClose _ => true
  | .crossfadeComplete _ => true
  | .crossfadeHandover _ => true
  | .startingEnd => true
  | .ampHuntSync _ => true

end Sys2Proof
end

