-- ==== Sys2Proof/Config.lean ====
section
/-! DEFINITION. The free values: what the manual leaves open and the model does not choose. Each is a constant
with no body, applied to the counter `Node.choice`, so no proof can see its value. -/

namespace Sys2Proof.Config

/-- Which of the works that may be taken next at a block boundary IS taken next. The manual gives the outcome of
both orders of any two works and names no order (R13, R17, R35, R47, R53, R63, R86, R106, R114, R118, R140, R155,
R164). Log entry 1. -/
opaque boundaryPick : Nat → Nat

/-- Whether, in a frame in which CLEAR becomes the accepted code, the lane receiver takes its two cells before the
CLEAR acts (true) or after it (false). R147 names both orders and fixes neither. Log entry 6. -/
opaque lanesBeforeClear : Nat → Bool

end Sys2Proof.Config
end

