-- ==== Sys2Proof/Machine/State.lean ====
section
/-! DEFINITION. The state of the HB4816 as plain data, and its reset value. One sub-record for each block of the
part (00_scope.md 1.3); `Node` joins them, and `State` adds the queue of waiting commands. -/

namespace Sys2Proof.Machine

/-! ## Operating states and link (chapters 7 and 8) -/

/-- The seven node states (08_operating_states.md 8.1). -/
inductive NodeState where
  | detached | starting | halted | quiet | active | fault | passive
  deriving DecidableEq, Repr

/-- The defined command codes (R122, R132). -/
inductive Code where
  | run | quiet | halt | clear
  deriving DecidableEq, Repr

/-- A receiver's lock state with its held count (07_the_cabin_link.md 7.2). -/
inductive Receiver where
  | hunting (run : Nat)
  | locked (miss : Nat)
  deriving DecidableEq, Repr

/-- The node's state control (R138, R140, R148) and the reset input. -/
structure Control where
  resetIn : Bool := false
  node : NodeState := .detached
  returnState : Option NodeState := none
  clearCount : Nat := 0
  deriving DecidableEq, Repr

/-- The link port (R124 to R137). `formed1` is the downstream frame formed in the latest frame period, `formed2` the
one before it; `ampTx` and `headTx` are the frames being sent in the present period, none for silence; `upNow` and
`upPrev` are the upstream frames received in the present period and in the one before it. -/
structure Link where
  head : Receiver := .hunting 0
  amp : Receiver := .hunting 0
  address : Option (BitVec 3) := none
  mismatch : Nat := 0
  accepted : Code := .halt
  candidate : Option Code := none
  frameInBlock : Nat := 0
  block : Nat := 0
  lastHop : BitVec 3 := 0
  formed1 : Option DownFrame := none
  formed2 : Option DownFrame := none
  ampTx : Option DownFrame := none
  headTx : Option UpFrame := none
  upNow : Option UpFrame := none
  upPrev : Option UpFrame := none
  deriving DecidableEq, Repr

/-! ## Tables -/

/-- A source element (R2). -/
structure Source where
  enabled : Bool := false
  slot : Fin 32 := 0
  program : Fin 4 := 0
  deriving DecidableEq, Repr

/-- A tap (R5): a source and a signed 16-bit weight, every value legal. -/
structure Tap where
  source : Fin 12
  weight : BitVec 16
  deriving DecidableEq, Repr

/-- Position across the cabin (R27). -/
inductive Side where
  | left | right | centre
  deriving DecidableEq, Repr

/-- Position along the cabin (R27). -/
inductive CabinEnd where
  | front | rear | mid
  deriving DecidableEq, Repr

/-- What a speaker may name as its set (R71): FLAT or one of the 48 EQ sets. -/
inductive SetRef where
  | flat
  | set (n : Fin 48)
  deriving DecidableEq, Repr

/-- A speaker element (R5, R27, R74). -/
structure Speaker where
  enabled : Bool := false
  slot : Fin 32 := 0
  zone : Fin 4 := 0
  side : Side := .left
  along : CabinEnd := .front
  trim : Int := 0
  ramp : Option (Fin 6) := none
  alpha : BitVec 16 := 0
  bandLinked : Bool := false
  bandSets : Vector SetRef 4 := .replicate 4 .flat
  taps : List Tap := []
  deriving DecidableEq, Repr

/-- A zone element (R24). -/
structure Zone where
  ceiling : Int := 0
  downSlew : Nat := 8
  upSlew : Nat := 2
  speakerSlew : Nat := 4
  curve : Fin 4
  guardOn : Bool := false
  attack : Nat := 4
  floor : Int := -96
  hold : Nat := 750
  recover : Nat := 15
  deriving DecidableEq, Repr

/-- A program-zone element (R26). -/
structure Pair where
  follow : Bool := true
  ramp : Option (Fin 6) := none
  deriving DecidableEq, Repr

/-- A presence element (R10). -/
structure PresenceEntry where
  threshold : Nat := 65536
  hold : Nat := 150
  deriving DecidableEq, Repr

/-- The speed settings element (R46). -/
structure SpeedSettings where
  weight : Nat := 4
  staleTime : Nat := 750
  failTime : Nat := 3000
  attack : Nat := 2
  release : Nat := 30
  hysteresis : Nat := 6
  theta1 : Nat := 160
  theta2 : Nat := 320
  theta3 : Nat := 480
  bandHysteresis : Nat := 20
  deriving DecidableEq, Repr

/-- A breakpoint of a speed curve (R48). -/
structure Breakpoint where
  speed : Nat
  lift : Nat
  bass : Nat
  deriving DecidableEq, Repr

/-- A speed curve element (R48); the offsets are in the order front windows, rear windows, roof, open top. -/
structure Curve where
  points : List Breakpoint := []
  offsets : Vector Nat 4 := .replicate 4 0
  deriving DecidableEq, Repr

/-- A biquad section (R71): five signed 24-bit coefficients, every value legal. -/
structure Section where
  b0 : BitVec 24
  b1 : BitVec 24
  b2 : BitVec 24
  a1 : BitVec 24
  a2 : BitVec 24
  deriving DecidableEq, Repr

/-- The node table element (R73, R162). Bits 13 to 15 of the attention mask are stored as 0, so 13 bits are held. -/
structure NodeEntry where
  crossfadeLength : Nat := 64
  attentionMask : BitVec 13 := BitVec.allOnes 13
  deriving DecidableEq, Repr

/-- A segment of a ramp list (R97). -/
structure Segment where
  target : Int
  duration : Nat
  deriving DecidableEq, Repr

/-- A ramp element (R97). -/
structure RampList where
  segments : List Segment := []
  loopStart : Option (Fin 16) := none
  loopCount : BitVec 8 := 0
  deriving DecidableEq, Repr

/-- The thirteen tables (09_message_lanes_and_the_executor.md 9.5), each at its reset values. -/
structure Tables where
  sources : Vector Source 12 := .replicate 12 {}
  speakers : Vector Speaker 24 := .replicate 24 {}
  zones : Vector Zone 4 := .ofFn fun z => { curve := z }
  pairs : Vector Pair 16 := .replicate 16 {}
  duck : Vector Int 64 := .replicate 64 0
  presence : Vector PresenceEntry 4 := .replicate 4 {}
  volume : Vector Int 64 := .ofFn fun i => if i.val = 0 then -960 else 8 * ((i.val : Int) - 63)
  balance : Vector Int 33 := .ofFn fun i => if i.val = 32 then -960 else -3 * (i.val : Int)
  settings : SpeedSettings := {}
  curves : Vector Curve 4 := .replicate 4 {}
  eqSets : Vector (List Section) 48 := .replicate 48 []
  nodeEntry : NodeEntry := {}
  ramps : Vector RampList 6 := .replicate 6 {}
  deriving DecidableEq, Repr

/-! ## Live and running state -/

/-- A zone's live state (R30). -/
structure ZoneLive where
  volumeIndex : Nat := 0
  volumeCode : Int := -960
  balance : Int := 0
  fade : Int := 0
  mute : Bool := false
  trims : Vector Int 4 := .replicate 4 0
  deriving DecidableEq, Repr

/-- The zones' live state and the speaker mutes (R30). -/
structure Live where
  zones : Vector ZoneLive 4 := .replicate 4 {}
  mutes : Vector Bool 24 := .replicate 24 false
  deriving DecidableEq, Repr

/-- A presence mode (01_sources_programs_and_the_mix.md 1.4). -/
inductive PresenceMode where
  | off | on | auto
  deriving DecidableEq, Repr

/-- A presence detector (01_sources_programs_and_the_mix.md 1.4). -/
structure Detector where
  mode : PresenceMode := .off
  present : Bool := false
  quiet : Nat := 0
  peak : Nat := 0
  deriving DecidableEq, Repr

/-- A smoother with what is formed from it: applied code, effective code and linear gain (R39, R40, R21). -/
structure Gain where
  applied : Int := -960
  effective : Int := -960
  linear : Nat := 0
  deriving DecidableEq, Repr

/-- A speaker's clip count, running mark and last-block mark (R43). -/
structure Clip where
  count : Nat := 0
  running : Bool := false
  last : Bool := false
  deriving DecidableEq, Repr

/-- The level composition and the output stage. -/
structure Levels where
  pairs : Vector Gain 16 := .replicate 16 {}
  speakers : Vector Gain 24 := .replicate 24 {}
  clips : Vector Clip 24 := .replicate 24 {}
  deriving DecidableEq, Repr

/-- The speed states (03_speed_dependent_volume.md 3.3). -/
inductive SpeedState where
  | none | live | stale | failed
  deriving DecidableEq, Repr

/-- A zone's speed state (03_speed_dependent_volume.md 3.1). -/
structure ZoneSpeed where
  target : Nat := 0
  smoothed : Nat := 0
  release : Nat := 0
  bassTarget : Nat := 0
  bass : Nat := 0
  deriving DecidableEq, Repr

/-- The speed tracker (03_speed_dependent_volume.md 3.1). The cabin flags are the four low bits of CABIN (R171). -/
structure Tracker where
  state : SpeedState := .none
  speed : Nat := 0
  raw : Nat := 0
  stale : Nat := 0
  fail : Nat := 0
  band : Fin 4 := 0
  cabin : BitVec 4 := 0
  zones : Vector ZoneSpeed 4 := .replicate 4 {}
  deriving DecidableEq, Repr

/-- The state of one biquad section in a chain (R72). -/
structure SectionState where
  x1 : Int := 0
  x2 : Int := 0
  y1 : Int := 0
  y2 : Int := 0
  deriving DecidableEq, Repr

/-- A chain's state: up to 8 sections (R72). -/
abbrev Chain := Vector SectionState 8

/-- The EQ state of a speaker with what each state holds (R77): in WAITING the queued desired set, in FADING the
target set and the optional pending set. -/
inductive EqPhase where
  | idle
  | waiting (queued : SetRef)
  | fading (target : SetRef) (pending : Option SetRef)
  deriving DecidableEq, Repr

/-- A speaker's EQ state record (R77). -/
structure EqRecord where
  phase : EqPhase := .idle
  current : SetRef := .flat
  running : Chain := .replicate 8 {}
  incoming : Chain := .replicate 8 {}
  lp : Int := 0
  deriving DecidableEq, Repr

/-- A held crossfade slot (R83): its speaker, the captured N and the frame counter j. -/
structure Held where
  speaker : Fin 24
  length : Nat
  count : Nat
  deriving DecidableEq, Repr

/-- The EQ engine and the bass shelf. `zoneGain` is the linear gain Ls of each zone's applied bass as the shelf last
formed it; `flatShelf` marks a speaker enabled since then, which takes 2^22 (R95; log entry 19). -/
structure EqEngine where
  records : Vector EqRecord 24 := .replicate 24 {}
  slots : Vector (Option Held) 8 := .replicate 8 none
  waiting : List (Fin 24) := []
  zoneGain : Vector Nat 4 := .replicate 4 4194304
  flatShelf : Vector Bool 24 := .replicate 24 false
  deriving DecidableEq, Repr

/-- A ramp unit's mode (R98). -/
inductive RampMode where
  | hold | step | run | once
  deriving DecidableEq, Repr

/-- The open segment of a ramp unit (R98, R99): start value c0, target t, duration d, position i. -/
structure OpenSegment where
  start : Int
  target : Int
  duration : Nat
  position : Nat
  deriving DecidableEq, Repr

/-- Repeats still to be made (R98). -/
inductive Loops where
  | count (n : Nat)
  | endless
  deriving DecidableEq, Repr

/-- A ramp unit's running state (R98). -/
structure RampUnit where
  mode : RampMode := .hold
  index : Nat := 0
  segment : Option OpenSegment := none
  loops : Loops := .count 0
  output : Int := 0
  done : Bool := false
  deriving DecidableEq, Repr

/-- A zone's guard state (R113). -/
structure Guard where
  code : Int := 0
  hold : Nat := 0
  recover : Nat := 0
  deriving DecidableEq, Repr

/-! ## Message machinery (chapter 9) -/

/-- A lane's assembly record (R151). -/
inductive Assembly where
  | ready
  | assembling (bytes : List Byte)
  | skipping
  deriving DecidableEq, Repr

/-- A whole message: an admitted request or a reply (R150). Its check byte is computed when it is sent. -/
structure Message where
  dest : BitVec 4
  origin : BitVec 4
  kind : Byte
  tag : Byte
  payload : List Byte
  deriving DecidableEq, Repr

/-- A downstream lane with its assembly record and its queue, oldest first (R151, R154). -/
structure Lane where
  assembly : Assembly := .skipping
  queue : List Message := []
  deriving DecidableEq, Repr

/-- The two downstream lanes. -/
inductive LaneId where
  | setting | live
  deriving DecidableEq, Repr

/-- An entry of the pass-through store (R166). `fin` is the manual's END. -/
inductive StoreEntry where
  | data (b : Byte)
  | fin (b : Byte)
  | abort
  deriving DecidableEq, Repr

/-- The merger's input state (R166). -/
inductive MergerIn where
  | ready
  | inMessage (count : Nat)
  | skipping
  deriving DecidableEq, Repr

/-- The merger's output state (R166). `sendingReply pos` has sent `pos` bytes of the head reply; `aborting` owes the
ABORT cell of R168 and is BETWEEN after it. -/
inductive MergerOut where
  | between
  | sendingReply (pos : Nat)
  | sendingPass
  | aborting
  deriving DecidableEq, Repr

/-- The upstream merger (R166). -/
structure Merger where
  store : List StoreEntry := []
  input : MergerIn := .skipping
  output : MergerOut := .between
  deriving DecidableEq, Repr

/-! ## Works of a block boundary -/

/-- A work of a block boundary, each taken whole and once. The executor's take on each lane (R155), a detector's
judgement (R12), the speed tracker's per-block work (R67), the guard's step (R119), a ramp unit's step (R104), the
completion of a slot's crossfade (R86), the shelf's forming of Ls (R95), the level composition (R35) and the clear
count of STARTING (R140). Log entry 2. -/
inductive Work where
  | liveTake
  | settingTake
  | judge (p : Fin 4)
  | track
  | guardStep
  | ramp (u : Fin 6)
  | complete (k : Fin 8)
  | shelf
  | compose
  | starting
  deriving DecidableEq, Repr

/-- The node: every piece of state the manual gives the part, and the model's own `boundary` (the works of the
standing boundary not yet taken, log entry 3) and `choice` (the counter of the free values, log entry 1). -/
structure Node where
  control : Control := {}
  link : Link := {}
  tables : Tables := {}
  live : Live := {}
  detectors : Vector Detector 4 := .replicate 4 {}
  levels : Levels := {}
  tracker : Tracker := {}
  eq : EqEngine := {}
  ramps : Vector RampUnit 6 := .replicate 6 {}
  guards : Vector Guard 4 := .replicate 4 {}
  settingLane : Lane := {}
  liveLane : Lane := {}
  replies : List Message := []
  merger : Merger := {}
  events : BitVec 13 := 0
  boundary : List Work := []
  choice : Nat := 0
  deriving DecidableEq, Repr

/-- The machine: the node and the commands that wait, first in, first out. -/
structure State where
  node : Node
  pending : List Instr
  deriving DecidableEq, Repr

/-- Why the machine stops. No command of this block stops it: every condition the manual names is an effect on the
node (an event flag, a reply's result code, the node state FAULT), so the type has no constructor. -/
inductive Fault where
  deriving DecidableEq, Repr

/-- Why a command has no meaning. -/
inductive Refusal where
  /-- Raised by `exec` alone, for a row of the table whose meaning is not written. Safe: the machine stops where the
  hardware goes on. No arm raises it now. -/
  | notModelled (mnemonic : String)
  deriving DecidableEq, Repr

/-- The machine right after reset: the reset input just released, every record at its reset value (R138), no command
waiting. Log entry 16. -/
def State.reset : State := { node := {}, pending := [] }

end Sys2Proof.Machine
end

