-- ==== Sys2Proof/Machine/Arith.lean ====
section
/-! DEFINITION. Exact integer arithmetic (R1) and the conversion of a gain code to a linear gain (R20). -/

namespace Sys2Proof.Machine

/-- R1: clamp a value to the range lo..hi. -/
def clamp (lo hi x : Int) : Int := max lo (min hi x)

/-- R1: clamp a count to the range lo..hi. -/
def clampNat (lo hi x : Nat) : Nat := max lo (min hi x)

/-- R1: "Round (by 2^n)", half toward plus infinity. -/
def roundPow (n : Nat) (x : Int) : Int := (x + 2 ^ (n - 1)) / 2 ^ n

/-- R1: "Truncate", toward zero. -/
def trunc (x y : Int) : Int := x.tdiv y

/-- R1, 1.5.4: the working range of samples inside the part. -/
def clampWorking (x : Int) : Int := clamp (-134217728) 134217727 x

/-- 1.5.4: the slot range. -/
def clampSlot (x : Int) : Int := clamp (-8388608) 8388607 x

/-- The mantissas m(0) to m(47) of R20, m(r) = round(2^(r/48) × 2^22). Log entry 18. -/
def mantissas : List Nat :=
  [4194304, 4255312, 4317206, 4380002, 4443710, 4508346, 4573921, 4640450, 4707947, 4776426, 4845900, 4916386,
   4987896, 5060447, 5134053, 5208729, 5284492, 5361357, 5439339, 5518456, 5598724, 5680159, 5762779, 5846601,
   5931642, 6017919, 6105452, 6194258, 6284355, 6375763, 6468501, 6562588, 6658043, 6754886, 6853138, 6952819,
   7053950, 7156552, 7260647, 7366255, 7473400, 7582103, 7692387, 7804276, 7917792, 8032959, 8149801, 8268342]

/-- R20: the mantissa of remainder r. -/
def mantissa (r : Nat) : Nat := mantissas.getD r 0

/-- R20: the linear gain of a gain code. -/
def linearGain (g : Int) : Nat :=
  if g ≤ -960 then 0
  else if 0 ≤ g / 48 then mantissa (g % 48).toNat * 2 ^ (g / 48).toNat
  else (roundPow (-(g / 48)).toNat (mantissa (g % 48).toNat)).toNat

end Sys2Proof.Machine
end

