-- ==== Sys2Proof/Machine/Flags.lean ====
section
/-! DEFINITION. The event flags and the attention bit (R161, R162). -/

namespace Sys2Proof.Machine

/-- The thirteen event flags (R161). -/
inductive Event where
  | setOverrun | liveOverrun | malformed | checkFail | badRequest | writeRefused | speedStale | speedFailed
  | bandChange | rampDone | guardActive | crossfadeWait | relock
  deriving DecidableEq, Repr

/-- The number of an event flag (R161). -/
def eventNumber : Event → Nat
  | .setOverrun => 0
  | .liveOverrun => 1
  | .malformed => 2
  | .checkFail => 3
  | .badRequest => 4
  | .writeRefused => 5
  | .speedStale => 6
  | .speedFailed => 7
  | .bandChange => 8
  | .rampDone => 9
  | .guardActive => 10
  | .crossfadeWait => 11
  | .relock => 12

/-- The flag word with one flag set. -/
def eventBit (e : Event) : BitVec 13 := BitVec.ofNat 13 (2 ^ eventNumber e)

/-- R161: an event sets its flag, which stays set. -/
def raise (e : Event) (n : Node) : Node := { n with events := n.events ||| eventBit e }

/-- Set a flag when a condition holds. -/
def raiseIf (b : Bool) (e : Event) (n : Node) : Node := if b then raise e n else n

/-- R163: clear every flag that a clear mask names. -/
def clearEvents (mask : BitVec 13) (n : Node) : Node := { n with events := n.events &&& ~~~mask }

/-- Whether a flag is set. -/
def eventSet (e : Event) (n : Node) : Bool := n.events.getLsbD (eventNumber e)

/-- R162: the attention bit, at least one set flag that the mask selects. -/
def attention (n : Node) : Bool := n.events &&& n.tables.nodeEntry.attentionMask != 0

end Sys2Proof.Machine
end

