-- ==== Sys2Proof/Machine/Operands.lean ====
section
/-! DEFINITION. How values are written as bytes (R170), the message form and its check byte (R150). -/

namespace Sys2Proof.Machine

/-- R170 unsigned: the bytes, most significant first. -/
def unsignedOf (bs : List Byte) : Nat := bs.foldl (fun a b => a * 256 + b.toNat) 0

/-- R170 signed: the bytes, most significant first, in two's complement. -/
def signedOf (bs : List Byte) : Int := Int.bmod (unsignedOf bs) (256 ^ bs.length)

/-- R170: an unsigned value in `w` bytes, most significant first. -/
def unsignedBytes : Nat → Nat → List Byte
  | 0, _ => []
  | w + 1, x => BitVec.ofNat 8 (x / 256 ^ w) :: unsignedBytes w x

/-- R170: a signed value in `w` bytes, most significant first. -/
def signedBytes (w : Nat) (x : Int) : List Byte := unsignedBytes w (x % (256 ^ w : Nat)).toNat

/-- R170 flag: 0 clear or off, 1 set or on, any other byte illegal. -/
def flagOf (b : Byte) : Option Bool :=
  if b = 0 then some false else if b = 1 then some true else none

/-- R170: a flag's byte. -/
def flagByte (b : Bool) : Byte := if b then 1 else 0

/-- A structural index below `n`, any other byte illegal. -/
def indexOf (n : Nat) (b : Byte) : Option (Fin n) :=
  if h : b.toNat < n then some ⟨b.toNat, h⟩ else none

/-- An index's byte. -/
def indexByte {n : Nat} (i : Fin n) : Byte := BitVec.ofNat 8 i.val

/-- R170 optional index: an index below `n`, or 0xFF for none; any other byte illegal. -/
def optIndexOf (n : Nat) (b : Byte) : Option (Option (Fin n)) :=
  if h : b.toNat < n then some (some ⟨b.toNat, h⟩) else if b = 0xFF then some none else none

/-- R170: an optional index's byte. -/
def optIndexByte {n : Nat} : Option (Fin n) → Byte
  | some i => indexByte i
  | none => 0xFF

/-- R170 set reference in a request or element: 0 to 47 a set, 0xFF FLAT; any other byte illegal, 0xFE too. -/
def setRefOf (b : Byte) : Option SetRef :=
  if h : b.toNat < 48 then some (.set ⟨b.toNat, h⟩) else if b = 0xFF then some .flat else none

/-- R170: a set reference's byte. -/
def setRefByte : SetRef → Byte
  | .flat => 0xFF
  | .set i => indexByte i

/-- R170: a set reference in a reply, 0xFE for absent. -/
def optSetRefByte : Option SetRef → Byte
  | some r => setRefByte r
  | none => 0xFE

/-- R173: a side's code. -/
def sideOf (b : Byte) : Option Side :=
  if b = 0 then some .left else if b = 1 then some .right else if b = 2 then some .centre else none

/-- R173: a side's byte. -/
def sideByte : Side → Byte
  | .left => 0
  | .right => 1
  | .centre => 2

/-- R173: an end's code. -/
def alongOf (b : Byte) : Option CabinEnd :=
  if b = 0 then some .front else if b = 1 then some .rear else if b = 2 then some .mid else none

/-- R173: an end's byte. -/
def alongByte : CabinEnd → Byte
  | .front => 0
  | .rear => 1
  | .mid => 2

/-- R171: a PRESENCE mode's code. -/
def presenceModeOf (b : Byte) : Option PresenceMode :=
  if b = 0 then some .off else if b = 1 then some .on else if b = 2 then some .auto else none

/-- R171: a RAMP_CONTROL mode's code. -/
def rampModeOf (b : Byte) : Option RampMode :=
  if b = 0 then some .hold else if b = 1 then some .step else if b = 2 then some .run
  else if b = 3 then some .once else none

/-- R172: a ramp mode's code. -/
def rampModeCode : RampMode → Nat
  | .hold => 0
  | .step => 1
  | .run => 2
  | .once => 3

/-- R122, R169: a command code's value. -/
def codeOf (c : BitVec 4) : Option Code :=
  if c = 1 then some .run else if c = 2 then some .quiet else if c = 3 then some .halt
  else if c = 4 then some .clear else none

/-- R122, R169: a command code's number. -/
def codeNumber : Code → BitVec 4
  | .run => 1
  | .quiet => 2
  | .halt => 3
  | .clear => 4

/-- R172: a speed state's code. -/
def speedStateCode : SpeedState → Nat
  | .none => 0
  | .live => 1
  | .stale => 2
  | .failed => 3

/-- R170 mask: bit k of the bytes read as one number names item k. -/
def maskBit (mask k : Nat) : Bool := mask.testBit k

/-- Bytes 0 to 3 + n of a message (R150), the check byte apart. -/
def messageBody (m : Message) : List Byte :=
  (m.dest ++ m.origin) :: m.kind :: m.tag :: BitVec.ofNat 8 m.payload.length :: m.payload

/-- The sum of bytes modulo 256. -/
def byteSum (bs : List Byte) : Byte := bs.foldl (· + ·) 0

/-- R150: a message's bytes with the check byte, so that all of them sum to 0 modulo 256. -/
def messageBytes (m : Message) : List Byte := messageBody m ++ [-(byteSum (messageBody m))]

/-- The message that bytes 0 to 3 + n spell, the check byte dropped (R150). -/
def messageOf : List Byte → Option Message
  | b0 :: kind :: tag :: _ :: rest =>
    some { dest := b0.extractLsb' 4 4, origin := b0.extractLsb' 0 4, kind := kind, tag := tag,
           payload := rest.dropLast }
  | _ => none

end Sys2Proof.Machine
end

