-- ==== Sys2Proof/Machine/Formats.lean ====
section
/-! DEFINITION. The 832 bit periods of a frame and the 12 bits of a status field (R122, R123, R169). A wire image is
the list of its bits in order of transmission; every field is sent most significant bit first. -/

namespace Sys2Proof.Machine

/-- The bits of a field of width `w`, most significant first. -/
def fieldBits {w : Nat} (x : BitVec w) : List Bool := List.ofFn fun i : Fin w => x.getMsbD i.val

/-- The field of width `w` that bits spell, most significant first. -/
def bitsField (w : Nat) (l : List Bool) : BitVec w :=
  BitVec.ofNat w (l.foldl (fun a b => 2 * a + b.toNat) 0)

/-- R169: the downstream sync pattern. -/
def downSync : BitVec 16 := 0xE81D

/-- R169: the upstream sync pattern. -/
def upSync : BitVec 16 := 0x17E2

/-- R169: the marker codes. -/
def markerCode : Marker → BitVec 2
  | .idle => 0
  | .data => 1
  | .fin => 2
  | .abort => 3

/-- R169: the marker a code stands for. -/
def markerOf (c : BitVec 2) : Marker :=
  if c = 0 then .idle else if c = 1 then .data else if c = 2 then .fin else .abort

/-- R169: a cell's 10 bits. -/
def cellBits (c : Cell) : List Bool := fieldBits (markerCode c.marker) ++ fieldBits c.byte

/-- R169: the cell that 10 bits spell. -/
def cellOf (l : List Bool) : Cell :=
  { marker := markerOf (bitsField 2 (l.take 2)), byte := bitsField 8 ((l.drop 2).take 8) }

/-- R169: a downstream frame's 832 bits. -/
def downBits (f : DownFrame) : List Bool :=
  fieldBits downSync ++ fieldBits f.hop ++ fieldBits f.code ++ cellBits f.setting ++ cellBits f.live
    ++ f.slots.toList.flatMap (fun s => fieldBits s) ++ fieldBits f.fill

/-- R122, R169: the downstream frame that 832 bits spell, recognised by its sync alone, the fill taken as it
stands. -/
def downOf (l : List Bool) : Option DownFrame :=
  if l.length = 832 ∧ bitsField 16 (l.take 16) = downSync then
    some { hop := bitsField 3 ((l.drop 16).take 3), code := bitsField 4 ((l.drop 19).take 4),
           setting := cellOf ((l.drop 23).take 10), live := cellOf ((l.drop 33).take 10),
           slots := .ofFn (fun k => bitsField 24 ((l.drop (43 + 24 * k.val)).take 24)),
           fill := bitsField 21 (l.drop 811) }
  else none

/-- R169: an upstream frame's 832 bits. -/
def upBits (f : UpFrame) : List Bool :=
  fieldBits upSync ++ cellBits f.reply ++ f.status.toList.flatMap (fun s => fieldBits s)
    ++ fieldBits f.fill

/-- R123, R169: the upstream frame that 832 bits spell, recognised by its sync alone, the fill taken as it stands. -/
def upOf (l : List Bool) : Option UpFrame :=
  if l.length = 832 ∧ bitsField 16 (l.take 16) = upSync then
    some { reply := cellOf ((l.drop 16).take 10),
           status := .ofFn (fun p => bitsField 12 ((l.drop (26 + 12 * p.val)).take 12)),
           fill := bitsField 758 (l.drop 74) }
  else none

/-- R169: "The node sends the byte of an IDLE or ABORT cell as 0x00." -/
def idleCell : Cell := { marker := .idle, byte := 0 }

/-- R169: an ABORT cell as the node sends it. -/
def abortCell : Cell := { marker := .abort, byte := 0 }

/-- R123: the indication codes of the states that write a status field. -/
def indication : NodeState → BitVec 3
  | .starting => 0
  | .halted => 1
  | .quiet => 2
  | .active => 3
  | .fault => 4
  | .detached => 7
  | .passive => 7

/-- R135, R169: a status field's 12 bits. -/
def statusField (ind : BitVec 3) (att : Bool) (settingFree liveFree : Nat) : BitVec 12 :=
  ind ++ BitVec.ofBool att ++ BitVec.ofNat 3 settingFree ++ BitVec.ofNat 4 liveFree ++ (0 : BitVec 1)

/-- R123, R169: ABSENT, indication 7 with every other bit 0. -/
def absentField : BitVec 12 := statusField 7 false 0 0

/-- R123: a status array with every position ABSENT. -/
def allAbsent : Vector (BitVec 12) 4 := .replicate 4 absentField

end Sys2Proof.Machine
end

