-- ==== Sys2Proof/Machine/Ops.lean ====
section
/-! DEFINITION. Shared operations: which states run what, updates of the node's vectors, lanes and queues. -/

namespace Sys2Proof.Machine

/-- 8.1: the states in which frames are processed by the blocks, boundaries occur, lanes assemble and the merger
runs: STARTING, HALTED, QUIET, ACTIVE and FAULT. -/
def inService : NodeState → Bool
  | .starting | .halted | .quiet | .active | .fault => true
  | .detached | .passive => false

/-- R155: the states in which the executor takes messages. -/
def executorRuns : NodeState → Bool
  | .halted | .quiet | .active => true
  | .detached | .passive | .starting | .fault => false

/-- R41, R42, R78: the states in which audio is formed, QUIET and ACTIVE. -/
def audioRuns : NodeState → Bool
  | .quiet | .active => true
  | .detached | .passive | .starting | .fault | .halted => false

/-- R131: the states in which the hop mismatch check runs. -/
def hopCheckRuns : NodeState → Bool
  | .starting | .halted | .quiet | .active => true
  | .detached | .passive | .fault => false

/-- R132: the states in which a frame's command code is taken, all but DETACHED. -/
def codesTaken (s : NodeState) : Bool := s != .detached

/-- Apply a function to every entry of a vector. -/
def mapVec {α β : Type} {k : Nat} (f : α → β) (v : Vector α k) : Vector β k := .ofFn fun i => f v[i]

/-- Change one entry of a vector. -/
def modifyVec {α : Type} {k : Nat} (i : Fin k) (f : α → α) (v : Vector α k) : Vector α k :=
  .ofFn fun j => if j = i then f v[j] else v[j]

/-- Put one entry of a vector. -/
def putVec {α : Type} {k : Nat} (i : Fin k) (a : α) (v : Vector α k) : Vector α k := modifyVec i (fun _ => a) v

/-- R26: the index 4 × z + p of the pair of zone z and program p. -/
def pairIndex (z p : Fin 4) : Fin 16 := ⟨4 * z.val + p.val, by omega⟩

/-- The zone of a pair's index. -/
def pairZone (i : Fin 16) : Fin 4 := ⟨i.val / 4, by omega⟩

/-- The program of a pair's index. -/
def pairProgram (i : Fin 16) : Fin 4 := ⟨i.val % 4, by omega⟩

/-- R15: the index 16 × z + 4 × p + q of the duck code of zone z, ducking program p and ducked program q. -/
def duckIndex (z p q : Fin 4) : Fin 64 := ⟨16 * z.val + 4 * p.val + q.val, by omega⟩

/-- A downstream lane. -/
def laneOf : LaneId → Node → Lane
  | .setting, n => n.settingLane
  | .live, n => n.liveLane

/-- Replace a downstream lane. -/
def withLane : LaneId → Lane → Node → Node
  | .setting, l, n => { n with settingLane := l }
  | .live, l, n => { n with liveLane := l }

/-- R154: a lane queue's capacity. -/
def laneCapacity : LaneId → Nat
  | .setting => 4
  | .live => 8

/-- R153: the overrun flag of a lane. -/
def overrunEvent : LaneId → Event
  | .setting => .setOverrun
  | .live => .liveOverrun

/-- R154: the capacity of the reply queue. -/
def replyCapacity : Nat := 4

/-- R130: the address as the destination and origin nibble. -/
def addressNibble (n : Node) : BitVec 4 := (n.link.address.getD 0).zeroExtend 4

/-- R130: the latched address, when it is 0 to 3. -/
def addressedPosition (n : Node) : Option (Fin 4) :=
  match n.link.address with
  | some a => if h : a.toNat < 4 then some ⟨a.toNat, h⟩ else none
  | none => none

/-- Put the node in a state. -/
def setNodeState (s : NodeState) (n : Node) : Node := { n with control := { n.control with node := s } }

end Sys2Proof.Machine
end

