-- ==== Sys2Proof/Machine/Mix.lean ====
section
/-! DEFINITION. The mix stage (chapter 1): source samples, block peaks, premix, presence detectors, duck codes. -/

namespace Sys2Proof.Machine

/-- R4: the source sample of a source in a frame's slots, none for a disabled source. -/
def sourceSample (n : Node) (slots : Vector Sample 32) (i : Fin 12) : Option Int :=
  if n.tables.sources[i].enabled then some slots[n.tables.sources[i].slot].toInt else none

/-- R11: the magnitude that a frame brings to a program's block peak, 0 when no enabled source is a member. -/
def frameMagnitude (n : Node) (slots : Vector Sample 32) (p : Fin 4) : Nat :=
  (List.finRange 12).foldl
    (fun m i =>
      match sourceSample n slots i with
      | some x => if n.tables.sources[i].program = p then max m x.natAbs else m
      | none => m) 0

/-- R11: every program's block peak takes a frame; the first frame of a block starts from 0. -/
def takePeaks (slots : Vector Sample 32) (n : Node) : Node :=
  { n with detectors := .ofFn fun p =>
      { n.detectors[p] with
        peak := max (if n.link.frameInBlock = 0 then 0 else n.detectors[p].peak) (frameMagnitude n slots p) } }

/-- R7: a tap's contribution: the weighting, then the level Lp of the pair of the speaker's zone and the source's
program; 0 for a disabled source. -/
def tapContribution (n : Node) (slots : Vector Sample 32) (z : Fin 4) (t : Tap) : Int :=
  match sourceSample n slots t.source with
  | some x =>
    roundPow 22 (roundPow 14 (x * t.weight.toInt)
      * (n.levels.pairs[pairIndex z n.tables.sources[t.source].program].linear : Int))
  | none => 0

/-- R8: a speaker's premix, the clamped sum of its taps' contributions. -/
def premix (n : Node) (slots : Vector Sample 32) (k : Fin 24) : Int :=
  clampWorking ((n.tables.speakers[k].taps.map (tapContribution n slots n.tables.speakers[k].zone)).sum)

/-- R12: one detector's judgement of the block that has ended. -/
def judgeDetector (e : PresenceEntry) (d : Detector) : Detector :=
  match d.mode with
  | .off => { d with present := false, quiet := 0 }
  | .on => { d with present := true, quiet := 0 }
  | .auto =>
    if e.threshold ≤ d.peak then { d with present := true, quiet := 0 }
    else if d.present then
      if e.hold ≤ d.quiet + 1 then { d with present := false, quiet := 0 } else { d with quiet := d.quiet + 1 }
    else { d with quiet := 0 }

/-- R12: the judgement of program p. -/
def judgeProgram (p : Fin 4) (n : Node) : Node :=
  { n with detectors := modifyVec p (judgeDetector n.tables.presence[p]) n.detectors }

/-- R12: a judgement makes a present AUTO program absent because its quiet count reaches its hold. -/
def presenceExpires (p : Fin 4) (n : Node) : Bool :=
  n.detectors[p].mode == .auto && n.detectors[p].present &&
    decide (n.detectors[p].peak < n.tables.presence[p].threshold) &&
    decide (n.tables.presence[p].hold ≤ n.detectors[p].quiet + 1)

/-- R13: what a PRESENCE message does to the detector of a program it names. -/
def setPresenceMode (m : PresenceMode) (d : Detector) : Detector :=
  if d.mode = m then d else { d with mode := m, present := m == .on, quiet := 0 }

/-- R19: a detector at relock. -/
def relockDetector (d : Detector) : Detector := { d with present := d.mode == .on, quiet := 0, peak := 0 }

/-- R16: the duck code of zone z and program q, the minimum of 0 and the codes of the present ducking programs. -/
def duckCode (n : Node) (z q : Fin 4) : Int :=
  (List.finRange 4).foldl
    (fun d p => if p ≠ q ∧ n.detectors[p].present then min d n.tables.duck[duckIndex z p q] else d) 0

end Sys2Proof.Machine
end

