-- ==== Sys2Proof/Machine/Composition.lean ====
section
/-! DEFINITION. The level composition (chapter 2): targets, smoothers, effective codes, linear gains, and the
silencing of entry to HALTED or FAULT and of relock. -/

namespace Sys2Proof.Machine

/-- R63: a zone's applied lift, the smaller of A and the cap, formed whenever it is read. -/
def appliedLift (n : Node) (z : Fin 4) : Int :=
  min (n.tracker.zones[z].smoothed : Int) (max 0 (n.tables.zones[z].ceiling - n.live.zones[z].volumeCode))

/-- The output of the ramp unit that a record names, or 0 (R40). -/
def rampOutput (n : Node) : Option (Fin 6) → Int
  | some u => n.ramps[u].output
  | none => 0

/-- R36: the target of the pair of zone z and program p. -/
def pairTarget (n : Node) (z p : Fin 4) : Int :=
  clamp (-960) 0
    ((if n.tables.pairs[pairIndex z p].follow then n.live.zones[z].volumeCode else 0)
      + n.live.zones[z].trims[p] + duckCode n z p)

/-- The balance curve at a position's magnitude (R37). -/
def curveAt (n : Node) (x : Int) : Int := n.tables.balance.toList.getD x.natAbs 0

/-- R37: balance attenuation by the zone's balance and the speaker's side. -/
def balanceAttenuation (n : Node) (b : Int) : Side → Int
  | .left => if 0 ≤ b then curveAt n b else 0
  | .right => if b ≤ 0 then curveAt n b else 0
  | .centre => 0

/-- R37: fade attenuation by the zone's fade and the speaker's end. -/
def fadeAttenuation (n : Node) (f : Int) : CabinEnd → Int
  | .front => if 0 ≤ f then curveAt n f else 0
  | .rear => if f ≤ 0 then curveAt n f else 0
  | .mid => trunc (curveAt n f) 2

/-- R38: whether a speaker's target is forced to -960. -/
def targetForced (n : Node) (k : Fin 24) : Bool :=
  n.live.mutes[k] || n.live.zones[n.tables.speakers[k].zone].mute || n.control.node == .quiet

/-- R38: the five terms of a speaker's target. -/
def speakerSum (n : Node) (k : Fin 24) : Int :=
  n.tables.speakers[k].trim
    + balanceAttenuation n n.live.zones[n.tables.speakers[k].zone].balance n.tables.speakers[k].side
    + fadeAttenuation n n.live.zones[n.tables.speakers[k].zone].fade n.tables.speakers[k].along
    + appliedLift n n.tables.speakers[k].zone + n.guards[n.tables.speakers[k].zone].code

/-- R38: the target of an enabled speaker. -/
def speakerTarget (n : Node) (k : Fin 24) : Int :=
  if targetForced n k then -960 else clamp (-960) 192 (speakerSum n k)

/-- R39: one smoother step, at most `down` down or `up` up, never past the target. -/
def smooth (down up : Nat) (target applied : Int) : Int :=
  if target < applied then max target (applied - down) else min target (applied + up)

/-- R40, R21: what is formed from a new applied code and a ramp output, the effective code clamped to -960..hi. -/
def formGain (hi applied ramp : Int) : Gain :=
  { applied := applied, effective := clamp (-960) hi (applied + ramp),
    linear := linearGain (clamp (-960) hi (applied + ramp)) }

/-- R36, R39, R40: a pair's new gain. -/
def composePair (n : Node) (i : Fin 16) : Gain :=
  formGain 0
    (smooth n.tables.zones[pairZone i].downSlew n.tables.zones[pairZone i].upSlew
      (pairTarget n (pairZone i) (pairProgram i)) n.levels.pairs[i].applied)
    (rampOutput n n.tables.pairs[i].ramp)

/-- R38, R39, R40: a speaker's new gain; a disabled speaker has no smoother step (R29). -/
def composeSpeaker (n : Node) (k : Fin 24) : Gain :=
  if n.tables.speakers[k].enabled then
    formGain 192
      (smooth n.tables.zones[n.tables.speakers[k].zone].speakerSlew
        n.tables.zones[n.tables.speakers[k].zone].speakerSlew (speakerTarget n k) n.levels.speakers[k].applied)
      (rampOutput n n.tables.speakers[k].ramp)
  else n.levels.speakers[k]

/-- R35, R41: the level composition of a boundary; in QUIET and ACTIVE alone. -/
def composeLevels (n : Node) : Node :=
  if audioRuns n.control.node then
    { n with levels :=
        { n.levels with pairs := .ofFn (composePair n), speakers := .ofFn (composeSpeaker n) } }
  else n

/-- R41, R43: on entry to HALTED or FAULT every applied and effective code is -960, every linear gain 0 and every
running clip mark clear; the clip counts and last-block marks stand. -/
def silenceLevels (l : Levels) : Levels :=
  { l with pairs := .replicate 16 {}, speakers := .replicate 24 {},
           clips := mapVec (fun c => { c with running := false }) l.clips }

/-- R45: the level composition and the output stage at relock. -/
def relockLevels (l : Levels) : Levels :=
  { l with pairs := .replicate 16 {}, speakers := .replicate 24 {},
           clips := mapVec (fun c => { c with running := false, last := false }) l.clips }

/-- R43: at a boundary the running mark becomes the last-block mark and starts clear. -/
def handOverMarks (n : Node) : Node :=
  { n with levels := { n.levels with
      clips := mapVec (fun c => { c with running := false, last := c.running }) n.levels.clips } }

end Sys2Proof.Machine
end

