-- ==== Sys2Proof/Machine/SpeedTracker.lean ====
section
/-! DEFINITION. The speed tracker's per-block work (chapter 3, R53 to R62) and its relock. -/

namespace Sys2Proof.Machine

/-- R57: interpolation between two neighbouring breakpoints, truncating. -/
def interpolate (v0 v1 s0 s1 s : Nat) : Nat :=
  ((v0 : Int) + trunc (((v1 : Int) - v0) * ((s : Int) - s0)) ((s1 : Int) - s0)).toNat

/-- R57: lift and bass of a curve at speed s, from the breakpoint at or below which s does not lie. -/
def curveAbove : Breakpoint → List Breakpoint → Nat → Nat × Nat
  | b, [], _ => (b.lift, b.bass)
  | b, c :: rest, s =>
    if c.speed ≤ s then curveAbove c rest s
    else (interpolate b.lift c.lift b.speed c.speed s, interpolate b.bass c.bass b.speed c.speed s)

/-- R57: lift and bass of a curve at speed s. -/
def curveValue (points : List Breakpoint) (s : Nat) : Nat × Nat :=
  match points with
  | [] => (0, 0)
  | b :: rest => if s ≤ b.speed then (b.lift, b.bass) else curveAbove b rest s

/-- R58: the condition offsets of the cabin flags that are set. -/
def cabinOffset (offsets : Vector Nat 4) (cabin : BitVec 4) : Nat :=
  (List.finRange 4).foldl (fun a i => if cabin.getLsbD i.val then a + offsets[i] else a) 0

/-- R57, R58: a zone's curve lift c and curve bass cb in LIVE. -/
def zoneCurve (n : Node) (z : Fin 4) : Nat × Nat :=
  (clampNat 0 192 ((curveValue n.tables.curves[n.tables.zones[z].curve].points n.tracker.speed).1
      + cabinOffset n.tables.curves[n.tables.zones[z].curve].offsets n.tracker.cabin),
   (curveValue n.tables.curves[n.tables.zones[z].curve].points n.tracker.speed).2)

/-- R53: the count's advance makes a LIVE tracker STALE. -/
def staleExpires (n : Node) : Bool :=
  n.tracker.state == .live && decide (n.tables.settings.staleTime ≤ n.tracker.stale + 1)

/-- R54: the count's advance makes a STALE tracker FAILED. -/
def failExpires (n : Node) : Bool :=
  n.tracker.state == .stale && decide (n.tables.settings.failTime ≤ n.tracker.fail + 1)

/-- R53, R54: the count's advance of a boundary, without its event flags. -/
def advanceCounts (n : Node) : Tracker :=
  match n.tracker.state with
  | .live =>
    if n.tables.settings.staleTime ≤ n.tracker.stale + 1 then
      { n.tracker with state := .stale, stale := n.tracker.stale + 1, fail := 0 }
    else { n.tracker with stale := n.tracker.stale + 1 }
  | .stale =>
    if n.tables.settings.failTime ≤ n.tracker.fail + 1 then
      { n.tracker with state := .failed, fail := n.tracker.fail + 1 }
    else { n.tracker with fail := n.tracker.fail + 1 }
  | .none => n.tracker
  | .failed => n.tracker

/-- R54, R56, R59: a zone's target lift and bass target in a speed state, from the curve value. -/
def updateTarget (state : SpeedState) (h : Nat) (curve : Nat × Nat) (z : ZoneSpeed) : ZoneSpeed :=
  match state with
  | .live =>
    if z.target < curve.1 ∨ curve.1 + h < z.target then { z with target := curve.1, bassTarget := curve.2 } else z
  | .stale => z
  | .none => { z with target := 0, bassTarget := 0 }
  | .failed => { z with target := 0, bassTarget := 0 }

/-- R60, R61: one step of the smoothed lift A toward T. -/
def stepLift (attack release : Nat) (z : ZoneSpeed) : ZoneSpeed :=
  if z.smoothed < z.target then { z with smoothed := min (z.smoothed + attack) z.target, release := 0 }
  else if z.smoothed = z.target then { z with release := 0 }
  else if release ≤ z.release + 1 then { z with smoothed := z.smoothed - 1, release := 0 }
  else { z with release := z.release + 1 }

/-- R62: one step of the applied bass toward its target. -/
def stepBass (z : ZoneSpeed) : ZoneSpeed :=
  if z.bass < z.bassTarget then { z with bass := z.bass + 1 }
  else if z.bassTarget < z.bass then { z with bass := z.bass - 1 } else z

/-- R59 to R62: a zone's per-block work in the state that the count's advance leaves. -/
def trackZone (n : Node) (z : Fin 4) : ZoneSpeed :=
  stepBass (stepLift n.tables.settings.attack n.tables.settings.release
    (updateTarget (advanceCounts n).state n.tables.settings.hysteresis (zoneCurve n z) n.tracker.zones[z]))

/-- R67: the tracker's per-block work, with SPEED_STALE and SPEED_FAILED. -/
def trackStep (n : Node) : Node :=
  raiseIf (staleExpires n) .speedStale
    (raiseIf (failExpires n) .speedFailed
      { n with tracker := { advanceCounts n with zones := .ofFn (trackZone n) } })

/-- R61: the tracker's work of this boundary lowers zone z's smoothed lift by one step. -/
def liftReleases (z : Fin 4) (n : Node) : Bool := decide ((trackZone n z).smoothed < n.tracker.zones[z].smoothed)

/-- R69: the tracker at relock. -/
def relockTracker (t : Tracker) : Tracker :=
  { t with state := .none, stale := 0, fail := 0, zones := .replicate 4 {} }

end Sys2Proof.Machine
end

