-- ==== Sys2Proof/Machine/Equaliser.lean ====
section
/-! DEFINITION. The EQ engine (chapter 4): desired sets, requests, crossfade slots, the wait queue, completion,
settlement, reference counts, and the shelf's forming of Ls. -/

namespace Sys2Proof.Machine

/-- A chain's zero state (R72). -/
def zeroChain : Chain := .replicate 8 {}

/-- The sections that a set reference names, none for FLAT (R72). -/
def sectionsOf (t : Tables) : SetRef → List Section
  | .flat => []
  | .set i => t.eqSets[i]

/-- R75: a speaker's desired set. -/
def desiredSet (n : Node) (k : Fin 24) : SetRef :=
  if n.tables.speakers[k].bandLinked then n.tables.speakers[k].bandSets[n.tracker.band]
  else n.tables.speakers[k].bandSets[(0 : Fin 4)]

/-- Change one EQ state record. -/
def modifyRecord (k : Fin 24) (f : EqRecord → EqRecord) (n : Node) : Node :=
  { n with eq := { n.eq with records := modifyVec k f n.eq.records } }

/-- Put a slot. -/
def putSlot (i : Fin 8) (h : Option Held) (n : Node) : Node :=
  { n with eq := { n.eq with slots := putVec i h n.eq.slots } }

/-- The lowest-numbered free slot (R79). -/
def freeSlot (n : Node) : Option (Fin 8) := (List.finRange 8).find? fun i => n.eq.slots[i].isNone

/-- The slot that a speaker holds. -/
def slotOf (n : Node) (k : Fin 24) : Option (Fin 8) :=
  (List.finRange 8).find? fun i =>
    match n.eq.slots[i] with
    | some h => h.speaker == k
    | none => false

/-- R79, R84, R86: speaker k starts a crossfade to `target` in slot i: the incoming chain is zero, N is captured, j is 0. -/
def startFade (k : Fin 24) (i : Fin 8) (target : SetRef) (n : Node) : Node :=
  modifyRecord k (fun r => { r with phase := .fading target none, incoming := zeroChain })
    (putSlot i (some { speaker := k, length := n.tables.nodeEntry.crossfadeLength, count := 0 }) n)

/-- R84: a free slot is taken at once by the speaker at the head of the wait queue. -/
def handOver (i : Fin 8) (n : Node) : Node :=
  match n.eq.slots[i], n.eq.waiting with
  | none, k :: rest =>
    match n.eq.records[k].phase with
    | .waiting q => startFade k i q { n with eq := { n.eq with waiting := rest } }
    | .idle => n
    | .fading _ _ => n
  | none, [] => n
  | some _, _ => n

/-- R84: a slot is released and handed over. -/
def releaseSlot (i : Fin 8) (n : Node) : Node := handOver i (putSlot i none n)

/-- R79: a speaker that finds no free slot joins the tail of the wait queue, and CROSSFADE_WAIT is set. -/
def joinQueue (k : Fin 24) (d : SetRef) (n : Node) : Node :=
  raise .crossfadeWait
    (modifyRecord k (fun r => { r with phase := .waiting d })
      { n with eq := { n.eq with waiting := n.eq.waiting ++ [k] } })

/-- R80: a speaker leaves the wait queue; those behind it keep their order. -/
def leaveQueue (k : Fin 24) (n : Node) : Node :=
  modifyRecord k (fun r => { r with phase := .idle })
    { n with eq := { n.eq with waiting := n.eq.waiting.filter (· ≠ k) } }

/-- R79, R80, R81: a desired-set request of an enabled speaker in QUIET or ACTIVE, by its EQ state. -/
def requestByState (k : Fin 24) (d : SetRef) (n : Node) : Node :=
  match n.eq.records[k].phase with
  | .idle =>
    if d = n.eq.records[k].current then n
    else
      match freeSlot n with
      | some i => startFade k i d n
      | none => joinQueue k d n
  | .waiting _ =>
    if d = n.eq.records[k].current then leaveQueue k n
    else modifyRecord k (fun r => { r with phase := .waiting d }) n
  | .fading target _ =>
    modifyRecord k (fun r => { r with phase := .fading target (if d = target then none else some d) }) n

/-- R90: the current set becomes the desired set at once. -/
def requestAtOnce (k : Fin 24) (d : SetRef) (n : Node) : Node := modifyRecord k (fun r => { r with current := d }) n

/-- R75: a desired-set request of speaker k, other than the one at its enabling. -/
def request (k : Fin 24) (n : Node) : Node :=
  if n.tables.speakers[k].enabled && audioRuns n.control.node then requestByState k (desiredSet n k) n
  else requestAtOnce k (desiredSet n k) n

/-- R82: several requests, each taken whole, in order. -/
def requestAll : List (Fin 24) → Node → Node
  | [], n => n
  | k :: ks, n => requestAll ks (request k n)

/-- R89, R91: a speaker's last desired set. -/
def lastDesired (r : EqRecord) : SetRef :=
  match r.phase with
  | .idle => r.current
  | .waiting q => q
  | .fading t none => t
  | .fading _ (some p) => p

/-- R89, R91: a record settled on its last desired set, with every chain and shelf state zero. -/
def settleRecord (r : EqRecord) : EqRecord := { current := lastDesired r }

/-- R91: the EQ engine settles every speaker: on HALT, on entry to FAULT, at relock. -/
def settleEq (e : EqEngine) : EqEngine :=
  { e with records := mapVec settleRecord e.records, slots := .replicate 8 none, waiting := [] }

/-- R89: a speaker disabled leaves its EQ activity at once. -/
def disableEq (k : Fin 24) (n : Node) : Node :=
  match n.eq.records[k].phase with
  | .idle => modifyRecord k settleRecord n
  | .waiting _ =>
    modifyRecord k settleRecord { n with eq := { n.eq with waiting := n.eq.waiting.filter (· ≠ k) } }
  | .fading _ _ =>
    match slotOf n k with
    | some i => releaseSlot i (modifyRecord k settleRecord n)
    | none => modifyRecord k settleRecord n

/-- R86: a slot's crossfade has reached its N blocks. -/
def fadeDue (i : Fin 8) (n : Node) : Bool :=
  match n.eq.slots[i] with
  | some h => decide (32 * h.length ≤ h.count)
  | none => false

/-- R86: on completion the target set becomes current and the running chain takes the incoming chain's state. -/
def completeRecord (r : EqRecord) : EqRecord :=
  match r.phase with
  | .fading t _ => { r with phase := .idle, current := t, running := r.incoming, incoming := zeroChain }
  | .idle => r
  | .waiting _ => r

/-- R86: the completion of the crossfade in slot i: a pending set starts in the same slot, otherwise the slot is
released. -/
def completeFade (i : Fin 8) (n : Node) : Node :=
  if fadeDue i n then
    match n.eq.slots[i] with
    | some h =>
      match n.eq.records[h.speaker].phase with
      | .fading _ (some p) => startFade h.speaker i p (modifyRecord h.speaker completeRecord n)
      | .fading _ none => releaseSlot i (modifyRecord h.speaker completeRecord n)
      | .idle => n
      | .waiting _ => n
    | none => n
  else n

/-- R86: the completion in slot i releases the slot, no pending set being present. -/
def completionReleases (i : Fin 8) (n : Node) : Bool :=
  fadeDue i n &&
    match n.eq.slots[i] with
    | some h =>
      match n.eq.records[h.speaker].phase with
      | .fading _ none => true
      | .fading _ (some _) => false
      | .idle => false
      | .waiting _ => false
    | none => false

/-- The references of one record to a set: current, target, pending or queued (R87). -/
def recordRefs (r : EqRecord) (s : SetRef) : Nat :=
  (if r.current = s then 1 else 0) +
    match r.phase with
    | .idle => 0
    | .waiting q => if q = s then 1 else 0
    | .fading t none => if t = s then 1 else 0
    | .fading t (some p) => (if t = s then 1 else 0) + (if p = s then 1 else 0)

/-- R87: the reference count of a set, computed from the records (log entry 24). -/
def refCount (e : EqEngine) (i : Fin 48) : Nat := (e.records.toList.map fun r => recordRefs r (.set i)).sum

/-- R95: the shelf forms Ls of every zone from its applied bass, in QUIET and ACTIVE. -/
def formShelf (n : Node) : Node :=
  if audioRuns n.control.node then
    { n with eq := { n.eq with zoneGain := .ofFn fun z => linearGain n.tracker.zones[z].bass,
                               flatShelf := .replicate 24 false } }
  else n

/-- R95: the linear gain Ls that a speaker's shelf uses in the running block. -/
def shelfGain (n : Node) (k : Fin 24) : Nat :=
  if n.eq.flatShelf[k] then 4194304 else n.eq.zoneGain[n.tables.speakers[k].zone]

/-- R84: a speaker's place in the wait queue, from 1 at the head, 0 when it does not wait. -/
def queuePlace (n : Node) (k : Fin 24) : Nat :=
  if k ∈ n.eq.waiting then n.eq.waiting.idxOf k + 1 else 0

/-- The number of slots held (R83, R96). -/
def slotsHeld (n : Node) : Nat := (n.eq.slots.toList.filter (·.isSome)).length

end Sys2Proof.Machine
end

