-- ==== Sys2Proof/Machine/RampUnits.lean ====
section
/-! DEFINITION. The ramp units (chapter 5): resolution, entry, per-block step, control, relock. -/

namespace Sys2Proof.Machine

/-- R99: open the segment at an index from the present output. -/
def openSegment (u : RampUnit) (index : Nat) (s : Segment) (loops : Loops) : RampUnit :=
  { u with index := index, loops := loops,
           segment := some { start := u.output, target := s.target, duration := s.duration, position := 0 } }

/-- R101: the loop start, when it lies below the list length. -/
def loopEntry (l : RampList) : Option (Nat × Segment) :=
  match l.loopStart with
  | some i =>
    match l.segments[i.val]? with
    | some s => some (i.val, s)
    | none => none
  | none => none

/-- R99, R101: entry of a segment by a unit with none open; none at an end of list without repeat. -/
def enterSegment (l : RampList) (u : RampUnit) : Option RampUnit :=
  match l.segments[u.index]? with
  | some s => some (openSegment u u.index s u.loops)
  | none =>
    match loopEntry l, u.loops with
    | some (i, s), .endless => some (openSegment u i s .endless)
    | some (i, s), .count (k + 1) => some (openSegment u i s (.count k))
    | some _, .count 0 => none
    | none, _ => none

/-- The unit inside a segment: as it stands when one is open, entered when none is. -/
def inSegment (l : RampList) (u : RampUnit) : Option RampUnit :=
  match u.segment with
  | some _ => some u
  | none => enterSegment l u

/-- R100: the output of an open segment at position i. -/
def segmentOutput (g : OpenSegment) (i : Nat) : Int :=
  g.start + trunc ((g.target - g.start) * i) (g.duration + 1)

/-- R100: a segment at its last block closes at this step. -/
def segmentEnds (g : OpenSegment) : Bool := decide (g.duration + 1 ≤ g.position + 1)

/-- R100, R102: one block along an open segment; ONCE returns to HOLD at the close. -/
def moveAlong (g : OpenSegment) (u : RampUnit) : RampUnit :=
  if segmentEnds g then
    { u with output := segmentOutput g (g.position + 1), segment := none, index := u.index + 1,
             mode := if u.mode = .once then .hold else u.mode }
  else { u with output := segmentOutput g (g.position + 1), segment := some { g with position := g.position + 1 } }

/-- R103: a jump to the open segment's target, which closes it. -/
def jumpToTarget (g : OpenSegment) (u : RampUnit) : RampUnit :=
  { u with output := g.target, segment := none, index := u.index + 1, mode := .hold }

/-- R100 to R104: a unit's per-block step; true when it reaches an end of list without repeat. -/
def stepUnit (l : RampList) (u : RampUnit) : RampUnit × Bool :=
  if u.mode = .hold then (u, false)
  else
    match inSegment l u with
    | none => ({ u with mode := .hold, done := true }, true)
    | some v =>
      match v.segment with
      | some g => (if v.mode = .step then jumpToTarget g v else moveAlong g v, false)
      | none => (v, false)

/-- R104: the per-block step of unit u, with RAMP_DONE (R110). -/
def rampStep (u : Fin 6) (n : Node) : Node :=
  raiseIf (stepUnit n.tables.ramps[u] n.ramps[u]).2 .rampDone
    { n with ramps := putVec u (stepUnit n.tables.ramps[u] n.ramps[u]).1 n.ramps }

/-- R100, R102: this boundary's step of unit u, in RUN or ONCE, closes a segment. -/
def segmentCloses (u : Fin 6) (n : Node) : Bool :=
  (n.ramps[u].mode == .run || n.ramps[u].mode == .once) &&
    match inSegment n.tables.ramps[u] n.ramps[u] with
    | some v =>
      match v.segment with
      | some g => segmentEnds g
      | none => false
    | none => false

/-- R105: the remaining loops that a loop count gives. -/
def loopsOf (c : BitVec 8) : Loops := if c = 0xFF then .endless else .count c.toNat

/-- R105: RUN starts from index 0. -/
def startsFromZero (mode : RampMode) (index : Option (Fin 17)) (u : RampUnit) : Bool :=
  mode == .run &&
    match index with
    | some i => i.val == 0
    | none => u.index == 0 && u.segment.isNone

/-- R105: what RAMP_CONTROL does to a unit it names. -/
def controlUnit (mode : RampMode) (index : Option (Fin 17)) (l : RampList) (u : RampUnit) : RampUnit :=
  { u with
    mode := mode
    index := match index with
      | some i => i.val
      | none => u.index
    segment := match index with
      | some _ => none
      | none => u.segment
    done := if mode = .hold then u.done else false
    loops := if startsFromZero mode index u then loopsOf l.loopCount else u.loops }

/-- R112: a unit at relock. -/
def relockUnit (u : RampUnit) : RampUnit := { u with mode := .hold }

end Sys2Proof.Machine
end

