-- ==== Sys2Proof/Machine/ClipGuard.lean ====
section
/-! DEFINITION. The clip guard (chapter 6): clipped zones, attack, hold, recovery, and the effect of a write. -/

namespace Sys2Proof.Machine

/-- R114: a zone is clipped when a speaker whose zone field names it hands on a set mark. -/
def zoneClipped (n : Node) (z : Fin 4) : Bool :=
  (List.finRange 24).any fun k => n.tables.speakers[k].zone == z && n.levels.clips[k].last

/-- R115: an attack step. -/
def guardAttack (e : Zone) (g : Guard) : Guard :=
  { code := max (g.code - e.attack) e.floor, hold := e.hold, recover := 0 }

/-- R116: a clear zone's step: the hold counts down, then the code recovers. -/
def guardClear (e : Zone) (g : Guard) : Guard :=
  if 0 < g.hold then { g with hold := g.hold - 1 }
  else if g.code < 0 then
    if e.recover ≤ g.recover + 1 then { g with code := g.code + 1, recover := 0 }
    else { g with recover := g.recover + 1 }
  else { g with recover := 0 }

/-- R115, R116, R117: a zone's step; none while its guard is off. -/
def guardZone (n : Node) (z : Fin 4) : Guard :=
  if n.tables.zones[z].guardOn then
    if zoneClipped n z then guardAttack n.tables.zones[z] n.guards[z] else guardClear n.tables.zones[z] n.guards[z]
  else n.guards[z]

/-- R115: an attack step from a guard code of 0. -/
def guardLeavesZero (n : Node) : Bool :=
  (List.finRange 4).any fun z => n.tables.zones[z].guardOn && zoneClipped n z && n.guards[z].code == 0

/-- R119: the guard's step at a boundary, with GUARD_ACTIVE. -/
def guardStep (n : Node) : Node :=
  raiseIf (guardLeavesZero n) .guardActive { n with guards := .ofFn (guardZone n) }

/-- R116: zone z is clear and its guard on. -/
def guardWaits (z : Fin 4) (n : Node) : Bool := n.tables.zones[z].guardOn && !zoneClipped n z

/-- R116: this step counts the hold of a clear zone down to 0. -/
def guardHoldEnds (z : Fin 4) (n : Node) : Bool := guardWaits z n && n.guards[z].hold == 1

/-- R116: this step raises the guard code of a clear zone by one. -/
def guardRecovers (z : Fin 4) (n : Node) : Bool :=
  guardWaits z n && n.guards[z].hold == 0 && decide (n.guards[z].code < 0) &&
    decide (n.tables.zones[z].recover ≤ n.guards[z].recover + 1)

/-- R117: what a write of a zone element does to the zone's guard state. -/
def guardWritten (old new : Zone) (g : Guard) : Guard :=
  if old.guardOn && !new.guardOn then {} else { g with code := max g.code new.floor }

end Sys2Proof.Machine
end

