-- ==== Sys2Proof/Machine/Audio.lean ====
section
/-! DEFINITION. The sample path of a frame (R72, R78, R85, R94, R42, R43) and the claimed slots (R29, R129). -/

namespace Sys2Proof.Machine

/-- R72: one section's output for input x. -/
def sectionOutput (c : Section) (s : SectionState) (x : Int) : Int :=
  clampWorking (roundPow 22 (c.b0.toInt * x + c.b1.toInt * s.x1 + c.b2.toInt * s.x2 - c.a1.toInt * s.y1
    - c.a2.toInt * s.y2))

/-- R72: a section's state after input x with output y. -/
def sectionShift (s : SectionState) (x y : Int) : SectionState := { x1 := x, x2 := s.x1, y1 := y, y2 := s.y1 }

/-- R72: a chain over its sections: the new states and the chain output. -/
def runSections : List Section → List SectionState → Int → List SectionState × Int
  | c :: cs, s :: ss, x =>
    let y := sectionOutput c s x
    let r := runSections cs ss y
    (sectionShift s x y :: r.1, r.2)
  | [], ss, x => (ss, x)
  | _ :: _, [], x => ([], x)

/-- A chain from a list of section states, zero where the list ends. -/
def chainOf (l : List SectionState) : Chain := .ofFn fun i => l.getD i.val {}

/-- R72: a chain's new state for a chain input. -/
def chainState (cs : List Section) (c : Chain) (x : Int) : Chain := chainOf (runSections cs c.toList x).1

/-- R72: a chain's output e. -/
def chainOutput (cs : List Section) (c : Chain) (x : Int) : Int := (runSections cs c.toList x).2

/-- R85: the crossfade of the running and the incoming chain's output at frame counter j of N blocks. -/
def crossfade (eOld eNew : Int) (j length : Nat) : Int := eOld + trunc ((eNew - eOld) * j) (32 * length)

/-- R94: the shelf's low-pass after sample e; 0 while α is 0. -/
def shelfState (alpha : BitVec 16) (lp e : Int) : Int :=
  if alpha = 0 then 0 else lp + trunc ((e - lp) * alpha.toNat) (2 ^ 16)

/-- R94: the shelf's output from the updated low-pass; e itself while α is 0. -/
def shelfOutput (alpha : BitVec 16) (ls : Nat) (lp e : Int) : Int :=
  if alpha = 0 then e else clampWorking (e + trunc (((ls : Int) - 2 ^ 22) * lp) (2 ^ 22))

/-- R42: the output stage's value before saturation. -/
def outputExact (z : Int) (l : Nat) : Int := roundPow 22 (z * l)

/-- What a frame makes of one speaker: its new record and its output before saturation. -/
structure SpeakerFrame where
  record : EqRecord
  exact : Int
  deriving DecidableEq, Repr

/-- The sample that a speaker's EQ engine hands to its shelf, and the record's new chain states (R78, R85). -/
def equalise (n : Node) (k : Fin 24) (r : EqRecord) (x : Int) : EqRecord × Int :=
  match r.phase with
  | .fading t _ =>
    ({ r with running := chainState (sectionsOf n.tables r.current) r.running x,
              incoming := chainState (sectionsOf n.tables t) r.incoming x },
     match slotOf n k with
     | some i =>
       match n.eq.slots[i] with
       | some h =>
         crossfade (chainOutput (sectionsOf n.tables r.current) r.running x)
           (chainOutput (sectionsOf n.tables t) r.incoming x) h.count h.length
       | none => chainOutput (sectionsOf n.tables r.current) r.running x
     | none => chainOutput (sectionsOf n.tables r.current) r.running x)
  | .idle =>
    ({ r with running := chainState (sectionsOf n.tables r.current) r.running x },
     chainOutput (sectionsOf n.tables r.current) r.running x)
  | .waiting _ =>
    ({ r with running := chainState (sectionsOf n.tables r.current) r.running x },
     chainOutput (sectionsOf n.tables r.current) r.running x)

/-- An enabled speaker's frame from its premix: equaliser, shelf, output stage. -/
def speakerFrame (n : Node) (k : Fin 24) (x : Int) : SpeakerFrame :=
  let q := equalise n k n.eq.records[k] x
  let a := n.tables.speakers[k].alpha
  let lp := shelfState a q.1.lp q.2
  { record := { q.1 with lp := lp },
    exact := outputExact (shelfOutput a (shelfGain n k) lp q.2) n.levels.speakers[k].linear }

/-- R85: every held slot adds 1 to its frame counter. -/
def countSlots (n : Node) : Node :=
  { n with eq := { n.eq with
      slots := mapVec (fun h => h.map fun s => { s with count := s.count + 1 }) n.eq.slots } }

/-- R43: an unclamped output outside the slot range is a clip. -/
def isClip (y : Int) : Bool := decide (y < -8388608) || decide (8388607 < y)

/-- R43: a clip adds 1 to the count, at most 255, and sets the running mark. -/
def countClip (y : Int) (c : Clip) : Clip :=
  if isClip y then { c with count := min 255 (c.count + 1), running := true } else c

/-- The speakers' frames after the slots have counted, none for a disabled speaker (R8, R78). -/
def speakerFrames (slots : Vector Sample 32) (n : Node) : Vector (Option SpeakerFrame) 24 :=
  .ofFn fun k => if n.tables.speakers[k].enabled then some (speakerFrame n k (premix n slots k)) else none

/-- Store what the speakers' frames leave: EQ records, shelf states, clip counts and marks. -/
def storeFrames (fs : Vector (Option SpeakerFrame) 24) (n : Node) : Node :=
  { n with
    eq := { n.eq with records := .ofFn fun k =>
      match fs[k] with
      | some f => f.record
      | none => n.eq.records[k] }
    levels := { n.levels with clips := .ofFn fun k =>
      match fs[k] with
      | some f => countClip f.exact n.levels.clips[k]
      | none => n.levels.clips[k] } }

/-- R29: the enabled speaker whose output slot is slot i. -/
def claimant (n : Node) (i : Fin 32) : Option (Fin 24) :=
  (List.finRange 24).find? fun k => n.tables.speakers[k].enabled && n.tables.speakers[k].slot == i

/-- R128, R129: the slots sent for a frame's slots: the claimed ones replaced, by y where audio is formed and by 0
where not, the others as received. A passive node claims nothing (R136). -/
def sentSlots (n : Node) (fs : Vector (Option SpeakerFrame) 24) (slots : Vector Sample 32) : Vector Sample 32 :=
  .ofFn fun i =>
    match if n.control.node = .passive then none else claimant n i with
    | some k =>
      if audioRuns n.control.node then
        match fs[k] with
        | some f => BitVec.ofInt 24 (clampSlot f.exact)
        | none => 0
      else 0
    | none => slots[i]

/-- The sample path of a frame in the state that governs it: the node after it, and the slots sent. -/
def audioFrame (slots : Vector Sample 32) (n : Node) : Node × Vector Sample 32 :=
  if audioRuns n.control.node then
    let m := countSlots n
    let fs := speakerFrames slots m
    (storeFrames fs m, sentSlots m fs slots)
  else (n, sentSlots n (.replicate 24 none) slots)

end Sys2Proof.Machine
end

