-- ==== Sys2Proof/Machine/Lanes.lean ====
section
/-! DEFINITION. The lane receiver and the lane queues (R151 to R154). -/

namespace Sys2Proof.Machine

/-- Put a lane's assembly record. -/
def setAssembly (l : LaneId) (a : Assembly) (n : Node) : Node :=
  withLane l { laneOf l n with assembly := a } n

/-- R153, R154: a message joins its lane's queue at the tail. -/
def enqueue (l : LaneId) (m : Message) (n : Node) : Node :=
  withLane l { laneOf l n with queue := (laneOf l n).queue ++ [m] } n

/-- R153: the length step. A message has at most 132 bytes (R150). -/
def lengthOk (bytes : List Byte) : Bool :=
  decide (4 ≤ bytes.length) && decide (bytes.length ≤ 132) && bytes.length == (bytes.getD 3 0).toNat + 5

/-- R153: the destination is the node's latched address or broadcast. -/
def addressedHere (n : Node) (m : Message) : Bool := m.dest == addressNibble n || m.dest == 0xF

/-- R153: the destination and room steps, for a message of the right length and sum. -/
def admitMessage (l : LaneId) (m : Message) (n : Node) : Node :=
  if addressedHere n m then
    if laneCapacity l ≤ (laneOf l n).queue.length then raise (overrunEvent l) n else enqueue l m n
  else n

/-- R153: the judgement of a message at its END cell. -/
def judgeMessage (l : LaneId) (bytes : List Byte) (n : Node) : Node :=
  if lengthOk bytes then
    if byteSum bytes = 0 then
      match messageOf bytes with
      | some m => admitMessage l m n
      | none => n
    else raise .checkFail n
  else raise .malformed n

/-- R152: a cell acts on its lane's assembly record. -/
def takeCell (l : LaneId) (c : Cell) (n : Node) : Node :=
  match (laneOf l n).assembly with
  | .ready =>
    match c.marker with
    | .idle => n
    | .data => setAssembly l (.assembling [c.byte]) n
    | .fin => judgeMessage l [c.byte] n
    | .abort => n
  | .assembling bytes =>
    match c.marker with
    | .idle => raise .malformed (setAssembly l .ready n)
    | .data =>
      if bytes.length < 132 then setAssembly l (.assembling (bytes ++ [c.byte])) n
      else raise .malformed (setAssembly l .skipping n)
    | .fin =>
      if bytes.length < 132 then judgeMessage l (bytes ++ [c.byte]) (setAssembly l .ready n)
      else raise .malformed (setAssembly l .ready n)
    | .abort => setAssembly l .ready n
  | .skipping =>
    match c.marker with
    | .idle => setAssembly l .ready n
    | .data => n
    | .fin => setAssembly l .ready n
    | .abort => setAssembly l .ready n

/-- R151: both records take a frame's cells, in the states in which they take any. -/
def takeCells (setting live : Cell) (n : Node) : Node :=
  if inService n.control.node then takeCell .live live (takeCell .setting setting n) else n

/-- R151: an assembly record at acceptance of CLEAR into STARTING. -/
def clearAssembly : Assembly → Assembly
  | .ready => .ready
  | .assembling _ => .skipping
  | .skipping => .skipping

end Sys2Proof.Machine
end

