-- ==== Sys2Proof/Machine/UpstreamMerger.lean ====
section
/-! DEFINITION. The upstream merger, the reply queue and the status field (R134, R135, R165 to R168). -/

namespace Sys2Proof.Machine

/-- R166: an IDLE cell, or a period with no cell, at the merger's input. -/
def mergerIdle (m : Merger) : Merger :=
  match m.input with
  | .ready => m
  | .inMessage _ => { m with store := m.store ++ [.abort], input := .ready }
  | .skipping => { m with input := .ready }

/-- R166: a DATA cell at the merger's input. -/
def mergerData (b : Byte) (m : Merger) : Merger :=
  match m.input with
  | .ready => { m with store := m.store ++ [.data b], input := .inMessage 1 }
  | .inMessage c =>
    if c < 131 then { m with store := m.store ++ [.data b], input := .inMessage (c + 1) }
    else { m with store := m.store ++ [.abort], input := .skipping }
  | .skipping => m

/-- R166: an END cell at the merger's input. -/
def mergerEnd (b : Byte) (m : Merger) : Merger :=
  match m.input with
  | .ready => { m with store := m.store ++ [.fin b], input := .ready }
  | .inMessage _ => { m with store := m.store ++ [.fin b], input := .ready }
  | .skipping => { m with input := .ready }

/-- R166: an ABORT cell at the merger's input. -/
def mergerAbort (m : Merger) : Merger :=
  match m.input with
  | .ready => m
  | .inMessage _ => { m with store := m.store ++ [.abort], input := .ready }
  | .skipping => { m with input := .ready }

/-- R166: the input cell of a frame period acts by the input state. -/
def mergerTake (c : Option Cell) (m : Merger) : Merger :=
  match c with
  | none => mergerIdle m
  | some c =>
    match c.marker with
    | .idle => mergerIdle m
    | .data => mergerData c.byte m
    | .fin => mergerEnd c.byte m
    | .abort => mergerAbort m

/-- R166: the input cell of this frame period, the reply cell received two periods earlier while the amp side is
LOCKED. -/
def mergerCell (k : Link) : Option Cell :=
  match k.amp with
  | .locked _ => k.upPrev.map (·.reply)
  | .hunting _ => none

/-- R167: the output cell of a store entry. -/
def entryCell : StoreEntry → Cell
  | .data b => { marker := .data, byte := b }
  | .fin b => { marker := .fin, byte := b }
  | .abort => abortCell

/-- R167: the output state after a store entry has been sent. -/
def afterEntry : StoreEntry → MergerOut
  | .data _ => .sendingPass
  | .fin _ => .between
  | .abort => .between

/-- R167: whether an own reply may start: BETWEEN, store empty, a reply waiting, no message in progress on the input. -/
def replyMayStart (replies : List Message) (m : Merger) : Bool :=
  m.output == .between && m.store.isEmpty && !replies.isEmpty &&
    match m.input with
    | .inMessage _ => false
    | .ready => true
    | .skipping => true

/-- R167: an own reply starts; its first byte is the next to be sent. -/
def beginReply (replies : List Message) (m : Merger) : Merger :=
  if replyMayStart replies m then { m with output := .sendingReply 0 } else m

/-- The merger's output of a period: its cell, the merger and the reply queue after it. -/
structure Sent where
  cell : Cell
  merger : Merger
  replies : List Message
  deriving DecidableEq, Repr

/-- R167: the next byte of the head reply, DATA, or END for its last byte, after which the reply leaves the queue. -/
def sendReplyByte (pos : Nat) (replies : List Message) (m : Merger) : Sent :=
  match replies with
  | [] => { cell := idleCell, merger := { m with output := .between }, replies := [] }
  | r :: rest =>
    match (messageBytes r)[pos]? with
    | none => { cell := idleCell, merger := { m with output := .between }, replies := rest }
    | some b =>
      if pos + 1 < (messageBytes r).length then
        { cell := { marker := .data, byte := b }, merger := { m with output := .sendingReply (pos + 1) },
          replies := replies }
      else { cell := { marker := .fin, byte := b }, merger := { m with output := .between }, replies := rest }

/-- R167: the oldest store entry, which leaves the store; IDLE from an empty store (log entry 20). -/
def sendEntry (replies : List Message) (m : Merger) : Sent :=
  match m.store with
  | [] => { cell := idleCell, merger := m, replies := replies }
  | e :: rest => { cell := entryCell e, merger := { m with store := rest, output := afterEntry e }, replies := replies }

/-- R167, R168: the output cell of a frame period by the output state. -/
def mergerSend (replies : List Message) (m : Merger) : Sent :=
  match (beginReply replies m).output with
  | .sendingReply pos => sendReplyByte pos replies m
  | .sendingPass => sendEntry replies m
  | .between => sendEntry replies m
  | .aborting => { cell := abortCell, merger := { m with output := .between }, replies := replies }

/-- R166: one frame period of the merger, input first. -/
def mergerPeriod (n : Node) : Sent := mergerSend n.replies (mergerTake (mergerCell n.link) n.merger)

/-- R135: the free counts, capacity minus occupancy. -/
def freeCount (l : LaneId) (n : Node) : Nat := laneCapacity l - (laneOf l n).queue.length

/-- R135: the status field the node writes. -/
def ownStatus (n : Node) : BitVec 12 :=
  statusField (indication n.control.node) (attention n) (freeCount .setting n) (freeCount .live n)

/-- R134, R136: the status positions received two periods earlier, ABSENT where there are none. -/
def receivedStatus (k : Link) : Vector (BitVec 12) 4 :=
  match k.amp, k.upPrev with
  | .locked _, some u => u.status
  | .locked _, none => allAbsent
  | .hunting _, _ => allAbsent

/-- R134: an addressed node writes its own field at the position of its address. -/
def writtenStatus (n : Node) : Vector (BitVec 12) 4 :=
  match addressedPosition n with
  | some p => putVec p (ownStatus n) (receivedStatus n.link)
  | none => receivedStatus n.link

/-- R134: the upstream frame of a period in service. -/
def ownUpstream (n : Node) : Node :=
  { n with merger := (mergerPeriod n).merger, replies := (mergerPeriod n).replies,
           link := { n.link with headTx := some { reply := (mergerPeriod n).cell, status := writtenStatus n, fill := 0 } } }

/-- R136, R169: the fill received two periods earlier, which a passive node forwards as it stands; zero in a frame that
the node originates (log entry 8). -/
def receivedFill (k : Link) : BitVec 758 :=
  match k.amp, k.upPrev with
  | .locked _, some u => u.fill
  | .locked _, none => 0
  | .hunting _, _ => 0

/-- R136: a passive node forwards the reply cell, the status positions and the fill as received. -/
def passiveUpstream (n : Node) : Node :=
  { n with link := { n.link with
      headTx := some
        { reply := (mergerCell n.link).getD idleCell, status := receivedStatus n.link, fill := receivedFill n.link } } }

/-- R165: the executor posts a reply at the tail of the reply queue. -/
def postReply (request : Message) (payload : List Byte) (n : Node) : Node :=
  { n with replies := n.replies ++
      [{ dest := 0xE, origin := addressNibble n, kind := request.kind + 0x80, tag := request.tag,
         payload := payload }] }

/-- R168: the merger at the loss of amp-side lock. -/
def mergerAmpLoss (m : Merger) : Merger :=
  { store := [], input := .skipping, output := if m.output = .sendingPass then .aborting else m.output }

/-- R168: the merger at acceptance of CLEAR into STARTING. A reply of which no byte is sent yet owes no ABORT. -/
def mergerClear (m : Merger) : Merger :=
  { m with output :=
      match m.output with
      | .sendingReply 0 => .between
      | .sendingReply (_ + 1) => .aborting
      | .between => .between
      | .sendingPass => .sendingPass
      | .aborting => .aborting }

end Sys2Proof.Machine
end

