-- ==== Sys2Proof/Machine/NodeControl.lean ====
section
/-! DEFINITION. Command codes, node states, CLEAR, FAULT, lock, relock and loss of lock (chapters 7 and 8). -/

namespace Sys2Proof.Machine

/-- R142, R144: entry to HALTED or FAULT silences the levels and settles every crossfade in the frame of entry. -/
def silence (n : Node) : Node := { n with levels := silenceLevels n.levels, eq := settleEq n.eq }

/-- R142: the move of a working state by an accepted code. -/
def moveTo (s : NodeState) (n : Node) : Node :=
  match s with
  | .halted => setNodeState .halted (silence n)
  | .detached | .starting | .quiet | .active | .fault | .passive => setNodeState s n

/-- R140, R149: the state that the accepted code gives. -/
def stateOfCode : Code → NodeState
  | .run => .active
  | .quiet => .quiet
  | .halt => .halted
  | .clear => .halted

/-- R139, R147: the state entered when an address is latched. -/
def stateOfAddress (a : BitVec 3) : NodeState := if a.toNat < 4 then .starting else .passive

/-- R147, R151: a lane at acceptance of CLEAR: its queue emptied, its partial message discarded. -/
def clearLane (s : NodeState) (l : Lane) : Lane :=
  { queue := [], assembly := if s = .passive then .skipping else clearAssembly l.assembly }

/-- R147: acceptance of CLEAR in a frame of hop count `hop`: the address is re-latched and every table and all state
return to their reset values; the receivers, the block count, the frames already formed and, into STARTING, the
pass-through store are kept. -/
def clearNode (hop : BitVec 3) (n : Node) : Node :=
  { control := { n.control with node := stateOfAddress hop, returnState := none, clearCount := 0 }
    link := { n.link with address := some hop, mismatch := 0 }
    settingLane := clearLane (stateOfAddress hop) n.settingLane
    liveLane := clearLane (stateOfAddress hop) n.liveLane
    merger := if stateOfAddress hop = .passive then {} else mergerClear n.merger
    boundary := if stateOfAddress hop = .passive then [] else n.boundary
    choice := n.choice }

/-- R142, R141, R145, R146: what an accepted HALT, QUIET or RUN moves: HALTED, QUIET and ACTIVE alone. -/
def moveByCode (c : Code) (n : Node) : Node :=
  if executorRuns n.control.node then moveTo (stateOfCode c) n else n

/-- R132: a code becomes the accepted code. -/
def setAccepted (c : Code) (n : Node) : Node :=
  { n with link := { n.link with accepted := c, candidate := some c } }

/-- R132: the candidate becomes a code or none. -/
def setCandidate (c : Option Code) (n : Node) : Node := { n with link := { n.link with candidate := c } }

/-- R132, R142, R147: acceptance of a command code in a frame of hop count `hop`. -/
def acceptCode (c : Code) (hop : BitVec 3) (n : Node) : Node :=
  match c with
  | .clear => clearNode hop (setAccepted .clear n)
  | .run => moveByCode .run (setAccepted .run n)
  | .quiet => moveByCode .quiet (setAccepted .quiet n)
  | .halt => moveByCode .halt (setAccepted .halt n)

/-- R132: taking a received code makes it the accepted code. -/
def codeAccepted (c : Option Code) (n : Node) : Bool :=
  codesTaken n.control.node &&
    match c with
    | some c => n.link.candidate == some c && n.link.accepted != c
    | none => false

/-- R132: the node takes a frame's command code, none for an undefined code or a missed frame. -/
def takeCode (c : Option Code) (hop : BitVec 3) (n : Node) : Node :=
  if codesTaken n.control.node then
    match c with
    | none => setCandidate none n
    | some c =>
      if n.link.candidate = some c then
        if n.link.accepted = c then n else acceptCode c hop n
      else setCandidate (some c) n
  else n

/-- Put the mismatch count. -/
def setMismatch (m : Nat) (n : Node) : Node := { n with link := { n.link with mismatch := m } }

/-- R144: entry to FAULT; the clear count is abandoned (log entry 23). -/
def enterFault (n : Node) : Node :=
  setMismatch 0 { silence n with control := { n.control with node := .fault, clearCount := 0 } }

/-- R131, R144: the check of a received hop count against the latched address; in an addressed node alone. -/
def hopCheck (hop : BitVec 3) (n : Node) : Node :=
  if hopCheckRuns n.control.node then
    match n.link.address with
    | some a =>
      if hop = a then setMismatch 0 n
      else if 2 ≤ n.link.mismatch + 1 then enterFault n else setMismatch (n.link.mismatch + 1) n
    | none => n
  else n

/-- R128: a received hop count plus 1, saturating at 7. -/
def raiseHop (hop : BitVec 3) : BitVec 3 := if hop = 7 then 7 else hop + 1

/-- R124, R137: the link port at a head-side lock whose lock frame carries `hop`. -/
def lockLink (hop : BitVec 3) (k : Link) : Link :=
  { k with head := .locked 0, mismatch := 0, candidate := none, frameInBlock := 0, block := 0,
           lastHop := raiseHop hop }

/-- R139: the first head-side lock after reset. -/
def firstLock (hop : BitVec 3) (n : Node) : Node :=
  { n with
    link := { lockLink hop n.link with address := some hop }
    control := { n.control with node := stateOfAddress hop, returnState := none, clearCount := 0 } }

/-- R149: the state a relock enters by the return state. With no return state, which no run reaches, it is the
accepted code's (log entry 21). -/
def relockState (r : Option NodeState) (c : Code) : NodeState :=
  match r with
  | some .starting => .starting
  | some .fault => .fault
  | some .passive => .passive
  | some .halted | some .quiet | some .active | some .detached | none => stateOfCode c

/-- R149: a relock: RELOCK, every block's relock action, the state by the return state. -/
def relock (hop : BitVec 3) (n : Node) : Node :=
  raiseIf (addressedPosition n).isSome .relock
    { n with
      link := lockLink hop n.link
      control := { n.control with
        node := relockState n.control.returnState n.link.accepted, returnState := none, clearCount := 0 }
      detectors := mapVec relockDetector n.detectors
      levels := relockLevels n.levels
      tracker := relockTracker n.tracker
      eq := settleEq n.eq
      ramps := mapVec relockUnit n.ramps
      guards := .replicate 4 {}
      boundary := [] }

/-- R124, R139, R149: the head-side receiver locks: the first lock when the address is unlatched, else a relock. -/
def headLock (hop : BitVec 3) (n : Node) : Node :=
  match n.link.address with
  | none => firstLock hop n
  | some _ => relock hop n

/-- Put the head-side receiver. -/
def setHead (r : Receiver) (n : Node) : Node := { n with link := { n.link with head := r } }

/-- Put the amp-side receiver. -/
def setAmp (r : Receiver) (n : Node) : Node := { n with link := { n.link with amp := r } }

/-- R124: the head-side receiver's hunt. -/
def headHunt (seen : SyncSeen) (hop : BitVec 3) (n : Node) : Node :=
  if n.control.resetIn then n
  else
    match n.link.head with
    | .locked _ => n
    | .hunting run =>
      match seen with
      | .absent => setHead (.hunting 0) n
      | .elsewhere => if run = 0 then setHead (.hunting 1) n else n
      | .atExpected => if 8 ≤ run + 1 then headLock hop n else setHead (.hunting (run + 1)) n

/-- The head-side receiver is one sync short of lock, and the reset input is not asserted. -/
def headLockDue (n : Node) : Bool := !n.control.resetIn && n.link.head == .hunting 7

/-- R126, R148: the loss of head-side lock. -/
def headLoss (n : Node) : Node :=
  { n with
    control := { n.control with node := .detached, returnState := some n.control.node }
    link := { n.link with
      head := .hunting 0, amp := .hunting 0, candidate := none, mismatch := 0, formed1 := none, formed2 := none,
      ampTx := none, headTx := none, upNow := none, upPrev := none }
    settingLane := { n.settingLane with assembly := .skipping }
    liveLane := { n.liveLane with assembly := .skipping }
    merger := {} }

/-- R127, R168: the amp-side receiver locks; the lock frame is not forwarded and the merger input skips. The manual
leaves open how that SKIPPING outlasts the two periods with no cell after the lock (R127), which R166 takes as IDLE.
DESIGN CHOICE (log entry 33): R166's table is taken as it stands, so the first of those periods makes the input READY,
and a message already under way when cells begin to arrive is stored from the cell that arrives. Unsafe. -/
def ampLock (n : Node) : Node :=
  { n with
    link := { n.link with amp := .locked 0, upNow := none }
    merger := { n.merger with input := .skipping } }

/-- R127: the amp-side receiver's hunt, only while the head side is LOCKED. -/
def ampHunt (seen : SyncSeen) (n : Node) : Node :=
  match n.link.head, n.link.amp with
  | .locked _, .hunting run =>
    match seen with
    | .absent => setAmp (.hunting 0) n
    | .elsewhere => if run = 0 then setAmp (.hunting 1) n else n
    | .atExpected => if 8 ≤ run + 1 then ampLock n else setAmp (.hunting (run + 1)) n
  | .locked _, .locked _ => n
  | .hunting _, _ => n

/-- R127: the amp-side receiver is one sync short of lock. -/
def ampLockDue (n : Node) : Bool :=
  match n.link.head with
  | .locked _ => n.link.amp == .hunting 7
  | .hunting _ => false

/-- R127, R168: the loss of amp-side lock; the cells on their way to the merger are discarded. -/
def ampLoss (n : Node) : Node :=
  { n with
    link := { n.link with amp := .hunting 0, upNow := none, upPrev := none }
    merger := mergerAmpLoss n.merger }

/-- R127: a missed upstream frame; the fourth in a row loses lock. -/
def ampMissed (n : Node) : Node :=
  match n.link.amp with
  | .locked m =>
    if 4 ≤ m + 1 then ampLoss n
    else { n with link := { n.link with amp := .locked (m + 1), upNow := none } }
  | .hunting _ => n

/-- R127, R166: an upstream frame received while LOCKED. -/
def ampReceive (f : UpFrame) (n : Node) : Node :=
  match n.link.amp with
  | .locked _ => { n with link := { n.link with amp := .locked 0, upNow := some f } }
  | .hunting _ => n

/-- R138: the node while the reset input is asserted: every record at its reset value. The model's free-value counter
is kept (log entry 16). -/
def assertReset (n : Node) : Node := { control := { resetIn := true }, choice := n.choice }

/-- R138: the reset input is released; the node stays in DETACHED, its receiver hunting. -/
def releaseReset (n : Node) : Node := { n with control := { n.control with resetIn := false } }

end Sys2Proof.Machine
end

