-- ==== Sys2Proof/Machine/TableLayouts.lean ====
section
/-! DEFINITION. Table identifiers, element layouts and their decoding by position (R158, R173, R174). -/

namespace Sys2Proof.Machine

/-- The thirteen tables (R173). -/
inductive TableId where
  | source | speaker | zone | pair | duck | presence | volume | balance | settings | curve | eqSet | node | ramp
  deriving DecidableEq, Repr

/-- R173: the table of an identifier; any other identifier names no table. -/
def tableOf (b : Byte) : Option TableId :=
  match b.toNat with
  | 1 => some .source
  | 2 => some .speaker
  | 3 => some .zone
  | 4 => some .pair
  | 5 => some .duck
  | 6 => some .presence
  | 7 => some .volume
  | 8 => some .balance
  | 9 => some .settings
  | 10 => some .curve
  | 11 => some .eqSet
  | 12 => some .node
  | 13 => some .ramp
  | _ => none

/-- 9.5: a table's element count. -/
def tableSize : TableId → Nat
  | .source => 12
  | .speaker => 24
  | .zone => 4
  | .pair => 16
  | .duck => 64
  | .presence => 4
  | .volume => 64
  | .balance => 33
  | .settings => 1
  | .curve => 4
  | .eqSet => 48
  | .node => 1
  | .ramp => 6

/-- How a field group is laid out: a fixed number of bytes, or a count byte and entries of a fixed size (R170). -/
inductive GroupShape where
  | fixed (bytes : Nat)
  | list (entryBytes : Nat)
  deriving DecidableEq, Repr

/-- R173: a table's field groups in mask-bit order. -/
def tableShape : TableId → List GroupShape
  | .source => [.fixed 1, .fixed 1, .fixed 1]
  | .speaker =>
    [.fixed 1, .fixed 1, .fixed 1, .fixed 1, .fixed 1, .fixed 2, .fixed 1, .fixed 2, .fixed 1, .list 1, .list 3]
  | .zone =>
    [.fixed 2, .fixed 1, .fixed 1, .fixed 1, .fixed 1, .fixed 1, .fixed 1, .fixed 2, .fixed 2, .fixed 1]
  | .pair => [.fixed 1, .fixed 1]
  | .duck => [.fixed 2]
  | .presence => [.fixed 3, .fixed 2]
  | .volume => [.fixed 2]
  | .balance => [.fixed 2]
  | .settings =>
    [.fixed 1, .fixed 2, .fixed 2, .fixed 1, .fixed 1, .fixed 1, .fixed 2, .fixed 2, .fixed 2, .fixed 1]
  | .curve => [.list 4, .fixed 4]
  | .eqSet => [.list 15]
  | .node => [.fixed 2, .fixed 2]
  | .ramp => [.list 4, .fixed 1, .fixed 1]

/-- A field group as received: its bytes, or its entries' bytes. -/
inductive GroupValue where
  | bytes (b : List Byte)
  | entries (e : List (List Byte))
  deriving DecidableEq, Repr

/-- The first `k` bytes and the rest, none when fewer remain. -/
def cutBytes (k : Nat) (bs : List Byte) : Option (List Byte × List Byte) :=
  if k ≤ bs.length then some (bs.take k, bs.drop k) else none

/-- `count` entries of `size` bytes each, and the rest (R174). -/
def cutEntries (size : Nat) : Nat → List Byte → Option (List (List Byte) × List Byte)
  | 0, bs => some ([], bs)
  | count + 1, bs =>
    match cutBytes size bs with
    | none => none
    | some (e, rest) =>
      match cutEntries size count rest with
      | none => none
      | some (es, rest') => some (e :: es, rest')

/-- One field group and the rest, a list by its count byte alone (R170, R174). -/
def cutGroup (s : GroupShape) (bs : List Byte) : Option (GroupValue × List Byte) :=
  match s with
  | .fixed k =>
    match cutBytes k bs with
    | none => none
    | some (b, rest) => some (.bytes b, rest)
  | .list size =>
    match bs with
    | [] => none
    | c :: rest =>
      match cutEntries size c.toNat rest with
      | none => none
      | some (es, rest') => some (.entries es, rest')

/-- R174: the groups of an element that a field mask selects, in mask-bit order from bit `g`, and the rest; none when
the payload ends inside the element. -/
def cutElement (mask : Nat) : Nat → List GroupShape → List Byte → Option (List (Nat × GroupValue) × List Byte)
  | _, [], bs => some ([], bs)
  | g, s :: ss, bs =>
    if maskBit mask g then
      match cutGroup s bs with
      | none => none
      | some (v, rest) =>
        match cutElement mask (g + 1) ss rest with
        | none => none
        | some (vs, rest') => some ((g, v) :: vs, rest')
    else cutElement mask (g + 1) ss bs

/-- R158: merge the selected groups into a record one after another; none refuses the element. -/
def mergeGroups {α : Type} (f : α → Nat → GroupValue → Option α) : List (Nat × GroupValue) → α → Option α
  | [], r => some r
  | (g, v) :: rest, r =>
    match f r g v with
    | none => none
    | some r' => mergeGroups f rest r'

/-- Decode every entry of a list, none when one is illegal. -/
def decodeAll {α : Type} (f : List Byte → Option α) : List (List Byte) → Option (List α)
  | [] => some []
  | e :: es =>
    match f e, decodeAll f es with
    | some a, some as => some (a :: as)
    | _, _ => none

/-- A list group's bytes: the count byte and the entries (R170). -/
def listBytes (entries : List (List Byte)) : List Byte :=
  BitVec.ofNat 8 entries.length :: entries.flatten

/-- R174: an element's bytes, the selected groups in mask-bit order from bit `g`. -/
def joinGroups (mask : Nat) : Nat → List (List Byte) → List Byte
  | _, [] => []
  | g, b :: bs => (if maskBit mask g then b else []) ++ joinGroups mask (g + 1) bs

end Sys2Proof.Machine
end

