-- ==== Sys2Proof/Machine/TableRecords.lean ====
section
/-! DEFINITION. The records of the thirteen tables as field groups: merging a received group with its clamps and
checks, and the bytes of a stored group (R2, R5, R10, R15, R22 to R24, R26, R27, R46, R48, R71, R73, R74, R97, R162,
R170, R173). A merge that answers none refuses the element. -/

namespace Sys2Proof.Machine

/-- R2: a group of a source element. -/
def mergeSource (r : Source) (g : Nat) (v : GroupValue) : Option Source :=
  match g, v with
  | 0, .bytes [b] => (flagOf b).map fun x => { r with enabled := x }
  | 1, .bytes [b] => (indexOf 32 b).map fun x => { r with slot := x }
  | 2, .bytes [b] => (indexOf 4 b).map fun x => { r with program := x }
  | _, _ => none

/-- R173: a source element's groups. -/
def sourceGroups (r : Source) : List (List Byte) := [[flagByte r.enabled], [indexByte r.slot], [indexByte r.program]]

/-- R5: a tap entry. -/
def tapOf : List Byte → Option Tap
  | [s, hi, lo] => (indexOf 12 s).map fun x => { source := x, weight := BitVec.ofNat 16 (unsignedOf [hi, lo]) }
  | _ => none

/-- R173: a tap entry's bytes. -/
def tapBytes (t : Tap) : List Byte := indexByte t.source :: unsignedBytes 2 t.weight.toNat

/-- R74: band sets are a list of exactly four set references. -/
def bandSetsOf (es : List (List Byte)) : Option (Vector SetRef 4) :=
  match es with
  | [[a], [b], [c], [d]] =>
    match setRefOf a, setRefOf b, setRefOf c, setRefOf d with
    | some a, some b, some c, some d => some #v[a, b, c, d]
    | _, _, _, _ => none
  | _ => none

/-- R5: a list of at most four legal taps. -/
def tapsOf (es : List (List Byte)) : Option (List Tap) := if es.length ≤ 4 then decodeAll tapOf es else none

/-- R5, R27, R74: a group of a speaker element. -/
def mergeSpeaker (r : Speaker) (g : Nat) (v : GroupValue) : Option Speaker :=
  match g, v with
  | 0, .bytes [b] => (flagOf b).map fun x => { r with enabled := x }
  | 1, .bytes [b] => (indexOf 32 b).map fun x => { r with slot := x }
  | 2, .bytes [b] => (indexOf 4 b).map fun x => { r with zone := x }
  | 3, .bytes [b] => (sideOf b).map fun x => { r with side := x }
  | 4, .bytes [b] => (alongOf b).map fun x => { r with along := x }
  | 5, .bytes [hi, lo] => some { r with trim := clamp (-480) 96 (signedOf [hi, lo]) }
  | 6, .bytes [b] => (optIndexOf 6 b).map fun x => { r with ramp := x }
  | 7, .bytes [hi, lo] => some { r with alpha := BitVec.ofNat 16 (unsignedOf [hi, lo]) }
  | 8, .bytes [b] => (flagOf b).map fun x => { r with bandLinked := x }
  | 9, .entries es => (bandSetsOf es).map fun x => { r with bandSets := x }
  | 10, .entries es => (tapsOf es).map fun x => { r with taps := x }
  | _, _ => none

/-- R173: a speaker element's groups. -/
def speakerGroups (r : Speaker) : List (List Byte) :=
  [[flagByte r.enabled], [indexByte r.slot], [indexByte r.zone], [sideByte r.side], [alongByte r.along],
   signedBytes 2 r.trim, [optIndexByte r.ramp], unsignedBytes 2 r.alpha.toNat, [flagByte r.bandLinked],
   listBytes (r.bandSets.toList.map fun s => [setRefByte s]), listBytes (r.taps.map tapBytes)]

/-- R24: a group of a zone element. -/
def mergeZone (r : Zone) (g : Nat) (v : GroupValue) : Option Zone :=
  match g, v with
  | 0, .bytes [hi, lo] => some { r with ceiling := clamp (-480) 0 (signedOf [hi, lo]) }
  | 1, .bytes [b] => some { r with downSlew := clampNat 1 48 b.toNat }
  | 2, .bytes [b] => some { r with upSlew := clampNat 1 48 b.toNat }
  | 3, .bytes [b] => some { r with speakerSlew := clampNat 1 48 b.toNat }
  | 4, .bytes [b] => (indexOf 4 b).map fun x => { r with curve := x }
  | 5, .bytes [b] => (flagOf b).map fun x => { r with guardOn := x }
  | 6, .bytes [b] => some { r with attack := clampNat 1 24 b.toNat }
  | 7, .bytes [hi, lo] => some { r with floor := clamp (-192) (-1) (signedOf [hi, lo]) }
  | 8, .bytes [hi, lo] => some { r with hold := clampNat 1 4095 (unsignedOf [hi, lo]) }
  | 9, .bytes [b] => some { r with recover := clampNat 1 255 b.toNat }
  | _, _ => none

/-- R173: a zone element's groups. -/
def zoneGroups (r : Zone) : List (List Byte) :=
  [signedBytes 2 r.ceiling, unsignedBytes 1 r.downSlew, unsignedBytes 1 r.upSlew, unsignedBytes 1 r.speakerSlew,
   [indexByte r.curve], [flagByte r.guardOn], unsignedBytes 1 r.attack, signedBytes 2 r.floor,
   unsignedBytes 2 r.hold, unsignedBytes 1 r.recover]

/-- R26: a group of a program-zone element. -/
def mergePair (r : Pair) (g : Nat) (v : GroupValue) : Option Pair :=
  match g, v with
  | 0, .bytes [b] => (flagOf b).map fun x => { r with follow := x }
  | 1, .bytes [b] => (optIndexOf 6 b).map fun x => { r with ramp := x }
  | _, _ => none

/-- R173: a program-zone element's groups. -/
def pairGroups (r : Pair) : List (List Byte) := [[flagByte r.follow], [optIndexByte r.ramp]]

/-- R15, R22, R23: the one group of a duck, volume or balance curve element, a code clamped to -960..0. -/
def mergeCode (_ : Int) (g : Nat) (v : GroupValue) : Option Int :=
  match g, v with
  | 0, .bytes [hi, lo] => some (clamp (-960) 0 (signedOf [hi, lo]))
  | _, _ => none

/-- R173: a code element's one group. -/
def codeGroups (x : Int) : List (List Byte) := [signedBytes 2 x]

/-- R10: a group of a presence element. -/
def mergePresence (r : PresenceEntry) (g : Nat) (v : GroupValue) : Option PresenceEntry :=
  match g, v with
  | 0, .bytes [a, b, c] => some { r with threshold := clampNat 0 8388608 (unsignedOf [a, b, c]) }
  | 1, .bytes [hi, lo] => some { r with hold := clampNat 1 4095 (unsignedOf [hi, lo]) }
  | _, _ => none

/-- R173: a presence element's groups. -/
def presenceGroups (r : PresenceEntry) : List (List Byte) := [unsignedBytes 3 r.threshold, unsignedBytes 2 r.hold]

/-- R46: a group of the speed settings element, clamped. -/
def mergeSettings (r : SpeedSettings) (g : Nat) (v : GroupValue) : Option SpeedSettings :=
  match g, v with
  | 0, .bytes [b] => some { r with weight := clampNat 1 16 b.toNat }
  | 1, .bytes [hi, lo] => some { r with staleTime := clampNat 1 4095 (unsignedOf [hi, lo]) }
  | 2, .bytes [hi, lo] => some { r with failTime := clampNat 1 65535 (unsignedOf [hi, lo]) }
  | 3, .bytes [b] => some { r with attack := clampNat 1 8 b.toNat }
  | 4, .bytes [b] => some { r with release := clampNat 1 255 b.toNat }
  | 5, .bytes [b] => some { r with hysteresis := clampNat 0 48 b.toNat }
  | 6, .bytes [hi, lo] => some { r with theta1 := clampNat 0 1200 (unsignedOf [hi, lo]) }
  | 7, .bytes [hi, lo] => some { r with theta2 := clampNat 0 1200 (unsignedOf [hi, lo]) }
  | 8, .bytes [hi, lo] => some { r with theta3 := clampNat 0 1200 (unsignedOf [hi, lo]) }
  | 9, .bytes [b] => some { r with bandHysteresis := clampNat 0 200 b.toNat }
  | _, _ => none

/-- R46: the merged thresholds rise strictly. -/
def thresholdsRise (r : SpeedSettings) : Bool := decide (r.theta1 < r.theta2) && decide (r.theta2 < r.theta3)

/-- R173: the speed settings element's groups. -/
def settingsGroups (r : SpeedSettings) : List (List Byte) :=
  [unsignedBytes 1 r.weight, unsignedBytes 2 r.staleTime, unsignedBytes 2 r.failTime, unsignedBytes 1 r.attack,
   unsignedBytes 1 r.release, unsignedBytes 1 r.hysteresis, unsignedBytes 2 r.theta1, unsignedBytes 2 r.theta2,
   unsignedBytes 2 r.theta3, unsignedBytes 1 r.bandHysteresis]

/-- R48: a breakpoint entry, clamped. -/
def breakpointOf : List Byte → Option Breakpoint
  | [hi, lo, l, b] =>
    some { speed := clampNat 0 1200 (unsignedOf [hi, lo]), lift := clampNat 0 192 l.toNat,
           bass := clampNat 0 96 b.toNat }
  | _ => none

/-- R173: a breakpoint entry's bytes. -/
def breakpointBytes (b : Breakpoint) : List Byte :=
  unsignedBytes 2 b.speed ++ unsignedBytes 1 b.lift ++ unsignedBytes 1 b.bass

/-- R48: speeds increase strictly from each entry to the next. -/
def speedsRise : List Breakpoint → Bool
  | [] => true
  | [_] => true
  | a :: b :: rest => decide (a.speed < b.speed) && speedsRise (b :: rest)

/-- R48: a list of at most twelve breakpoints in order. -/
def pointsOf (es : List (List Byte)) : Option (List Breakpoint) :=
  if es.length ≤ 12 then
    match decodeAll breakpointOf es with
    | some ps => if speedsRise ps then some ps else none
    | none => none
  else none

/-- R48: a group of a speed curve element. -/
def mergeCurve (r : Curve) (g : Nat) (v : GroupValue) : Option Curve :=
  match g, v with
  | 0, .entries es => (pointsOf es).map fun x => { r with points := x }
  | 1, .bytes [a, b, c, d] =>
    some { r with offsets := #v[clampNat 0 48 a.toNat, clampNat 0 48 b.toNat, clampNat 0 48 c.toNat,
                                clampNat 0 48 d.toNat] }
  | _, _ => none

/-- R173: a speed curve element's groups. -/
def curveGroups (r : Curve) : List (List Byte) :=
  [listBytes (r.points.map breakpointBytes), r.offsets.toList.flatMap (unsignedBytes 1)]

/-- R71: a section entry, five coefficients. -/
def sectionOf : List Byte → Option Section
  | [a, b, c, d, e, f, g, h, i, j, k, l, m, n, o] =>
    some { b0 := BitVec.ofNat 24 (unsignedOf [a, b, c]), b1 := BitVec.ofNat 24 (unsignedOf [d, e, f]),
           b2 := BitVec.ofNat 24 (unsignedOf [g, h, i]), a1 := BitVec.ofNat 24 (unsignedOf [j, k, l]),
           a2 := BitVec.ofNat 24 (unsignedOf [m, n, o]) }
  | _ => none

/-- R173: a section entry's bytes. -/
def sectionBytes (s : Section) : List Byte :=
  unsignedBytes 3 s.b0.toNat ++ unsignedBytes 3 s.b1.toNat ++ unsignedBytes 3 s.b2.toNat
    ++ unsignedBytes 3 s.a1.toNat ++ unsignedBytes 3 s.a2.toNat

/-- R71: the group of an EQ set element, at most eight sections. -/
def mergeEqSet (_ : List Section) (g : Nat) (v : GroupValue) : Option (List Section) :=
  match g, v with
  | 0, .entries es => if es.length ≤ 8 then decodeAll sectionOf es else none
  | _, _ => none

/-- R173: an EQ set element's group. -/
def eqSetGroups (r : List Section) : List (List Byte) := [listBytes (r.map sectionBytes)]

/-- R73, R162: a group of the node element. -/
def mergeNodeEntry (r : NodeEntry) (g : Nat) (v : GroupValue) : Option NodeEntry :=
  match g, v with
  | 0, .bytes [hi, lo] => some { r with crossfadeLength := clampNat 16 256 (unsignedOf [hi, lo]) }
  | 1, .bytes [hi, lo] => some { r with attentionMask := BitVec.ofNat 13 (unsignedOf [hi, lo]) }
  | _, _ => none

/-- R173: the node element's groups. -/
def nodeGroups (r : NodeEntry) : List (List Byte) :=
  [unsignedBytes 2 r.crossfadeLength, unsignedBytes 2 r.attentionMask.toNat]

/-- R97: a segment entry, clamped. -/
def segmentOf : List Byte → Option Segment
  | [a, b, c, d] =>
    some { target := clamp (-960) 0 (signedOf [a, b]), duration := clampNat 0 4095 (unsignedOf [c, d]) }
  | _ => none

/-- R173: a segment entry's bytes. -/
def segmentBytes (s : Segment) : List Byte := signedBytes 2 s.target ++ unsignedBytes 2 s.duration

/-- R97: a group of a ramp element. -/
def mergeRamp (r : RampList) (g : Nat) (v : GroupValue) : Option RampList :=
  match g, v with
  | 0, .entries es =>
    if es.length ≤ 16 then (decodeAll segmentOf es).map fun x => { r with segments := x } else none
  | 1, .bytes [b] => (optIndexOf 16 b).map fun x => { r with loopStart := x }
  | 2, .bytes [b] => some { r with loopCount := b }
  | _, _ => none

/-- R173: a ramp element's groups. -/
def rampGroups (r : RampList) : List (List Byte) :=
  [listBytes (r.segments.map segmentBytes), [optIndexByte r.loopStart], [r.loopCount]]

end Sys2Proof.Machine
end

