-- ==== Sys2Proof/Machine/TableAccess.lean ====
section
/-! DEFINITION. Writing and reading table elements (R3, R28, R29, R75, R87, R89, R95, R117, R158, R159). -/

namespace Sys2Proof.Machine

/-- Change the tables. -/
def setTables (f : Tables → Tables) (n : Node) : Node := { n with tables := f n.tables }

/-- R28: a merged record is enabled and its output slot is that of another enabled speaker as the table stands. -/
def slotConflict (t : Tables) (k : Fin 24) (r : Speaker) : Bool :=
  r.enabled && (List.finRange 24).any fun j => j != k && t.speakers[j].enabled && t.speakers[j].slot == r.slot

/-- R29: a disabled speaker has applied code -960, linear gain 0 and clear marks; its clip count stands. -/
def disableLevels (k : Fin 24) (n : Node) : Node :=
  { n with levels := { n.levels with
      speakers := putVec k {} n.levels.speakers,
      clips := modifyVec k (fun c => { c with running := false, last := false }) n.levels.clips } }

/-- R29, R89: what a write that disables speaker k stops. -/
def disableSpeaker (k : Fin 24) (n : Node) : Node := disableEq k (disableLevels k n)

/-- R90, R95: a write that enables speaker k: it begins on its desired set, with Ls = 2^22 until the next forming. -/
def enableSpeaker (k : Fin 24) (n : Node) : Node :=
  requestAtOnce k (desiredSet n k) { n with eq := { n.eq with flatShelf := putVec k true n.eq.flatShelf } }

/-- R95: a shelf α of 0 holds the shelf state at 0. -/
def zeroShelfWhenOff (k : Fin 24) (n : Node) : Node :=
  if n.tables.speakers[k].alpha = 0 then modifyRecord k (fun r => { r with lp := 0 }) n else n

/-- R75: the one desired-set request that a written speaker element issues, when its mask selects band-linked or band
sets or the element enables the speaker. -/
def speakerRequest (mask : Nat) (k : Fin 24) (old new : Speaker) (n : Node) : Node :=
  if !old.enabled && new.enabled then enableSpeaker k n
  else if maskBit mask 8 || maskBit mask 9 then request k n else n

/-- R28, R29, R75, R89: a speaker element that passes its checks is written, with what the write brings about. -/
def writeSpeaker (mask : Nat) (k : Fin 24) (new : Speaker) (n : Node) : Node :=
  let old := n.tables.speakers[k]
  let written := zeroShelfWhenOff k (setTables (fun t => { t with speakers := putVec k new t.speakers }) n)
  speakerRequest mask k old new (if old.enabled && !new.enabled then disableSpeaker k written else written)

/-- R117: a zone element is written, with its effect on the zone's guard state. -/
def writeZone (z : Fin 4) (new : Zone) (n : Node) : Node :=
  { setTables (fun t => { t with zones := putVec z new t.zones }) n with
    guards := modifyVec z (guardWritten n.tables.zones[z] new) n.guards }

/-- R158: a refused element keeps its previous contents and sets WRITE_REFUSED. -/
def refuse (n : Node) : Node := raise .writeRefused n

/-- R158: merge, clamp, check, and write or refuse; an element of a table of `k` elements addressed at or beyond its
end is dropped with WRITE_REFUSED. -/
def writeAt {α : Type} (k : Nat) (idx : Nat) (stored : Fin k → α) (merge : α → Nat → GroupValue → Option α)
    (vs : List (Nat × GroupValue)) (ok : Fin k → α → Bool) (put : Fin k → α → Node → Node) (n : Node) : Node :=
  if h : idx < k then
    match mergeGroups merge vs (stored ⟨idx, h⟩) with
    | some r => if ok ⟨idx, h⟩ r then put ⟨idx, h⟩ r n else refuse n
    | none => refuse n
  else refuse n

/-- No check beyond the groups' own. -/
def noCheck {α β : Type} (_ : α) (_ : β) : Bool := true

/-- R158: one decoded element of a TABLE_WRITE. -/
def writeElement (t : TableId) (mask idx : Nat) (vs : List (Nat × GroupValue)) (n : Node) : Node :=
  match t with
  | .source => writeAt 12 idx (fun i => n.tables.sources[i]) mergeSource vs noCheck
      (fun i r => setTables fun t => { t with sources := putVec i r t.sources }) n
  | .speaker => writeAt 24 idx (fun i => n.tables.speakers[i]) mergeSpeaker vs
      (fun i r => !slotConflict n.tables i r) (writeSpeaker mask) n
  | .zone => writeAt 4 idx (fun i => n.tables.zones[i]) mergeZone vs noCheck writeZone n
  | .pair => writeAt 16 idx (fun i => n.tables.pairs[i]) mergePair vs noCheck
      (fun i r => setTables fun t => { t with pairs := putVec i r t.pairs }) n
  | .duck => writeAt 64 idx (fun i => n.tables.duck[i]) mergeCode vs noCheck
      (fun i r => setTables fun t => { t with duck := putVec i r t.duck }) n
  | .presence => writeAt 4 idx (fun i => n.tables.presence[i]) mergePresence vs noCheck
      (fun i r => setTables fun t => { t with presence := putVec i r t.presence }) n
  | .volume => writeAt 64 idx (fun i => n.tables.volume[i]) mergeCode vs noCheck
      (fun i r => setTables fun t => { t with volume := putVec i r t.volume }) n
  | .balance => writeAt 33 idx (fun i => n.tables.balance[i]) mergeCode vs noCheck
      (fun i r => setTables fun t => { t with balance := putVec i r t.balance }) n
  | .settings => writeAt 1 idx (fun _ => n.tables.settings) mergeSettings vs (fun _ r => thresholdsRise r)
      (fun _ r => setTables fun t => { t with settings := r }) n
  | .curve => writeAt 4 idx (fun i => n.tables.curves[i]) mergeCurve vs noCheck
      (fun i r => setTables fun t => { t with curves := putVec i r t.curves }) n
  | .eqSet => writeAt 48 idx (fun i => n.tables.eqSets[i]) mergeEqSet vs (fun i _ => refCount n.eq i == 0)
      (fun i r => setTables fun t => { t with eqSets := putVec i r t.eqSets }) n
  | .node => writeAt 1 idx (fun _ => n.tables.nodeEntry) mergeNodeEntry vs noCheck
      (fun _ r => setTables fun t => { t with nodeEntry := r }) n
  | .ramp => writeAt 6 idx (fun i => n.tables.ramps[i]) mergeRamp vs noCheck
      (fun i r => setTables fun t => { t with ramps := putVec i r t.ramps }) n

/-- R158, R174: the elements of a TABLE_WRITE one after another; a truncated element and every one after it are not
written, bytes beyond the counted elements are ignored, and either sets WRITE_REFUSED. -/
def writeElements (t : TableId) (mask : Nat) : Nat → Nat → List Byte → Node → Node
  | 0, _, bs, n => if bs.isEmpty then n else refuse n
  | count + 1, idx, bs, n =>
    match cutElement mask 0 (tableShape t) bs with
    | none => refuse n
    | some (vs, rest) => writeElements t mask count (idx + 1) rest (writeElement t mask idx vs n)

/-- The groups of a stored element, none beyond the table's end. -/
def elementGroups (n : Node) (t : TableId) (idx : Nat) : Option (List (List Byte)) :=
  match t with
  | .source => (n.tables.sources.toList[idx]?).map sourceGroups
  | .speaker => (n.tables.speakers.toList[idx]?).map speakerGroups
  | .zone => (n.tables.zones.toList[idx]?).map zoneGroups
  | .pair => (n.tables.pairs.toList[idx]?).map pairGroups
  | .duck => (n.tables.duck.toList[idx]?).map codeGroups
  | .presence => (n.tables.presence.toList[idx]?).map presenceGroups
  | .volume => (n.tables.volume.toList[idx]?).map codeGroups
  | .balance => (n.tables.balance.toList[idx]?).map codeGroups
  | .settings => if idx = 0 then some (settingsGroups n.tables.settings) else none
  | .curve => (n.tables.curves.toList[idx]?).map curveGroups
  | .eqSet => (n.tables.eqSets.toList[idx]?).map eqSetGroups
  | .node => if idx = 0 then some (nodeGroups n.tables.nodeEntry) else none
  | .ramp => (n.tables.ramps.toList[idx]?).map rampGroups

/-- R174: the bytes of a stored element under a field mask. -/
def elementBytes (n : Node) (t : TableId) (mask idx : Nat) : Option (List Byte) :=
  (elementGroups n t idx).map (joinGroups mask 0)

/-- R159: whole elements from an index, at most `wanted`, stopping at the table's end and where the next does not fit
in the room left; their count and their bytes. -/
def readElements (n : Node) (t : TableId) (mask : Nat) : Nat → Nat → Nat → Nat × List Byte
  | 0, _, _ => (0, [])
  | wanted + 1, idx, room =>
    match elementBytes n t mask idx with
    | none => (0, [])
    | some b =>
      if b.length ≤ room then
        let r := readElements n t mask wanted (idx + 1) (room - b.length)
        (r.1 + 1, b ++ r.2)
      else (0, [])

end Sys2Proof.Machine
end

