-- ==== Sys2Proof/Machine/SettingMessages.lean ====
section
/-! DEFINITION. What the executor does with the messages of the setting lane: TABLE_WRITE, TABLE_READ, EQ_SELECT,
IDENT_READ (R76, R158, R159, R160, R171, R172). A payload of the wrong length never reaches these (R156). -/

namespace Sys2Proof.Machine

/-- R158: TABLE_WRITE. -/
def carryTableWrite (payload : List Byte) (n : Node) : Node :=
  match payload with
  | id :: first :: count :: hi :: lo :: elements =>
    match tableOf id with
    | some t => writeElements t (unsignedOf [hi, lo]) count.toNat first.toNat elements n
    | none => refuse n
  | _ => n

/-- R159, R172: the reply payload of a TABLE_READ: result, identifier, first index, count returned, mask, elements.
DESIGN CHOICE (log entry 36), unsafe: the mask goes back as received (R159), its bits above the table's last group too,
though R170 sends unused mask bits as 0. -/
def tableReadReply (n : Node) (id first count hi lo : Byte) : List Byte :=
  match tableOf id with
  | none => [0x01, id, first, 0, hi, lo]
  | some t =>
    if first.toNat < tableSize t then
      let r := readElements n t (unsignedOf [hi, lo]) count.toNat first.toNat 121
      [0x00, id, first, BitVec.ofNat 8 r.1, hi, lo] ++ r.2
    else [0x02, id, first, 0, hi, lo]

/-- R159: TABLE_READ. -/
def carryTableRead (m : Message) (n : Node) : Node :=
  match m.payload with
  | [id, first, count, hi, lo] => postReply m (tableReadReply n id first count hi lo) n
  | _ => n

/-- The speakers that a mask names, in speaker index order (R76, R34). -/
def namedSpeakers (mask : Nat) : List (Fin 24) := (List.finRange 24).filter fun k => maskBit mask k.val

/-- R76: the band of an EQ_SELECT: none for ALL (outer none for an illegal byte). -/
def bandOf (b : Byte) : Option (Option (Fin 4)) := optIndexOf 4 b

/-- R76: write a set into the named band entry, or into all four, of a speaker. -/
def setBandEntry (band : Option (Fin 4)) (s : SetRef) (r : Speaker) : Speaker :=
  match band with
  | some b => { r with bandSets := putVec b s r.bandSets }
  | none => { r with bandSets := .replicate 4 s }

/-- R76: the write of one named speaker, then its desired-set request. -/
def selectSpeaker (band : Option (Fin 4)) (s : SetRef) (k : Fin 24) (n : Node) : Node :=
  request k (setTables (fun t => { t with speakers := modifyVec k (setBandEntry band s) t.speakers }) n)

/-- R76: the named speakers in index order. -/
def selectSpeakers (band : Option (Fin 4)) (s : SetRef) : List (Fin 24) → Node → Node
  | [], n => n
  | k :: ks, n => selectSpeakers band s ks (selectSpeaker band s k n)

/-- R76: EQ_SELECT. -/
def carryEqSelect (payload : List Byte) (n : Node) : Node :=
  match payload with
  | [m2, m1, m0, b, s] =>
    match bandOf b, setRefOf s with
    | some band, some set => selectSpeakers band set (namedSpeakers (unsignedOf [m2, m1, m0])) n
    | _, _ => refuse n
  | _ => n

/-- R160, R172: the identity: DONE, family, part, revision, capacities. -/
def identity : List Byte := [0x00, 0x4B, 0x48, 0x12, 0xD0, 0x01, 12, 24, 4, 4, 48, 6, 8]

/-- R160: IDENT_READ. -/
def carryIdentRead (m : Message) (n : Node) : Node := postReply m identity n

end Sys2Proof.Machine
end

