-- ==== Sys2Proof/Machine/LiveMessages.lean ====
section
/-! DEFINITION. What the executor does with the messages of the live lane (R13, R31 to R34, R50 to R52, R55, R64, R65,
R105, R163, R171, R172). A payload of the wrong length never reaches these (R156). -/

namespace Sys2Proof.Machine

/-- Change the live state of the zones that a mask names. -/
def modifyZones (mask : Nat) (f : ZoneLive → ZoneLive) (n : Node) : Node :=
  { n with live := { n.live with zones := .ofFn (fun z =>
      if maskBit mask z.val then f n.live.zones[z] else n.live.zones[z]) } }

/-- Change the live state of one zone. -/
def modifyZone (z : Fin 4) (f : ZoneLive → ZoneLive) (n : Node) : Node :=
  { n with live := { n.live with zones := modifyVec z f n.live.zones } }

/-- R31: LEVEL. -/
def carryLevel (payload : List Byte) (n : Node) : Node :=
  match payload with
  | [mask, form, hi, lo] =>
    if form = 0 then
      let i := min 63 (unsignedOf [hi, lo])
      modifyZones mask.toNat
        (fun z => { z with volumeIndex := i, volumeCode := n.tables.volume.toList.getD i 0 }) n
    else if form = 1 then
      modifyZones mask.toNat
        (fun z => { z with volumeIndex := 255, volumeCode := clamp (-960) 0 (signedOf [hi, lo]) }) n
    else refuse n
  | _ => n

/-- R32: PROGRAM_TRIM. -/
def carryProgramTrim (payload : List Byte) (n : Node) : Node :=
  match payload with
  | [z, p, hi, lo] =>
    match indexOf 4 z, indexOf 4 p with
    | some z, some p =>
      modifyZone z (fun r => { r with trims := putVec p (clamp (-480) 0 (signedOf [hi, lo])) r.trims }) n
    | _, _ => refuse n
  | _ => n

/-- R33: BALANCE_FADE. -/
def carryBalanceFade (payload : List Byte) (n : Node) : Node :=
  match payload with
  | [z, b, f] =>
    match indexOf 4 z with
    | some z =>
      modifyZone z (fun r => { r with balance := clamp (-32) 32 (signedOf [b]), fade := clamp (-32) 32 (signedOf [f]) }) n
    | none => refuse n
  | _ => n

/-- R34: the speaker mutes that a mask names take a setting. -/
def muteSpeakers (mask : Nat) (on : Bool) (n : Node) : Node :=
  { n with live := { n.live with mutes := .ofFn (fun k => if maskBit mask k.val then on else n.live.mutes[k]) } }

/-- R34: MUTE. -/
def carryMute (payload : List Byte) (n : Node) : Node :=
  match payload with
  | [form, m2, m1, m0, setting] =>
    match flagOf setting with
    | some on =>
      if form = 0 then modifyZones (unsignedOf [m2, m1, m0]) (fun z => { z with mute := on }) n
      else if form = 1 then muteSpeakers (unsignedOf [m2, m1, m0]) on n
      else refuse n
    | none => refuse n
  | _ => n

/-- R51: the smoothed speed after a valid report. -/
def nextSpeed (w : Nat) (t : Tracker) (raw : Nat) : Nat :=
  match t.state with
  | .none => raw
  | .failed => raw
  | .live => ((t.speed : Int) + trunc (((raw : Int) - t.speed) * w) 16).toNat
  | .stale => ((t.speed : Int) + trunc (((raw : Int) - t.speed) * w) 16).toNat

/-- R64: the threshold of a band, 0 for band 0. -/
def bandThreshold (s : SpeedSettings) (b : Nat) : Nat :=
  if b = 1 then s.theta1 else if b = 2 then s.theta2 else if b = 3 then s.theta3 else 0

/-- R64 Rise: the highest band whose threshold the speed reaches, 0 when it reaches none. -/
def reachedBand (s : SpeedSettings) (v : Nat) : Nat :=
  if s.theta3 ≤ v then 3 else if s.theta2 ≤ v then 2 else if s.theta1 ≤ v then 1 else 0

/-- R64 Fall: the band falls by one while the speed lies below its threshold less the hysteresis. -/
def fallBand (s : SpeedSettings) (v : Nat) : Nat → Nat
  | 0 => 0
  | b + 1 =>
    if (v : Int) < (bandThreshold s (b + 1) : Int) - s.bandHysteresis then fallBand s v b else b + 1

/-- R64: the band after an evaluation at speed v. -/
def nextBand (s : SpeedSettings) (v b : Nat) : Nat :=
  if b < reachedBand s v then reachedBand s v else fallBand s v b

/-- R65: the speakers that a band change issues requests for, in speaker index order. -/
def bandSpeakers (n : Node) : List (Fin 24) :=
  (List.finRange 24).filter fun k => n.tables.speakers[k].enabled && n.tables.speakers[k].bandLinked

/-- R64, R65: the band is evaluated; a change sets BAND_CHANGE and issues the requests. -/
def evaluateBand (n : Node) : Node :=
  let b : Fin 4 := Fin.ofNat 4 (nextBand n.tables.settings n.tracker.speed n.tracker.band.val)
  if b = n.tracker.band then n
  else requestAll (bandSpeakers n) (raise .bandChange { n with tracker := { n.tracker with band := b } })

/-- R51: a valid report of a clamped speed code. -/
def validReport (raw : Nat) (n : Node) : Node :=
  evaluateBand { n with tracker := { n.tracker with
    speed := nextSpeed n.tables.settings.weight n.tracker raw, raw := raw, state := .live, stale := 0, fail := 0 } }

/-- R52: an invalid report of a clamped speed code. -/
def invalidReport (raw : Nat) (n : Node) : Node :=
  raise .speedStale
    { n with tracker :=
        if n.tracker.state = .live then { n.tracker with raw := raw, state := .stale, fail := 0 }
        else { n.tracker with raw := raw } }

/-- R50: SPEED. -/
def carrySpeed (payload : List Byte) (n : Node) : Node :=
  match payload with
  | [hi, lo, quality] =>
    if quality = 1 then validReport (min 1200 (unsignedOf [hi, lo])) n
    else if quality = 0 then invalidReport (min 1200 (unsignedOf [hi, lo])) n
    else refuse n
  | _ => n

/-- R55: CABIN. -/
def carryCabin (payload : List Byte) (n : Node) : Node :=
  match payload with
  | [flags] => { n with tracker := { n.tracker with cabin := flags.extractLsb' 0 4 } }
  | _ => n

/-- R13: PRESENCE. -/
def carryPresence (payload : List Byte) (n : Node) : Node :=
  match payload with
  | [mask, mode] =>
    match presenceModeOf mode with
    | some m =>
      { n with detectors := .ofFn fun p =>
          if maskBit mask.toNat p.val then setPresenceMode m n.detectors[p] else n.detectors[p] }
    | none => refuse n
  | _ => n

/-- R105: RAMP_CONTROL. -/
def carryRampControl (payload : List Byte) (n : Node) : Node :=
  match payload with
  | [mask, mode, index] =>
    match rampModeOf mode, optIndexOf 17 index with
    | some m, some i =>
      if mask.toNat < 64 then
        { n with ramps := .ofFn fun u =>
            if maskBit mask.toNat u.val then controlUnit m i n.tables.ramps[u] n.ramps[u] else n.ramps[u] }
      else refuse n
    | _, _ => refuse n
  | _ => n

/-- R172: a ramp unit's byte of the NODE record. -/
def rampByte (u : RampUnit) : Byte := BitVec.ofNat 8 (rampModeCode u.mode + if u.done then 128 else 0)

/-- R163, R172: the NODE record. -/
def nodeRecord (n : Node) : List Byte :=
  [(indication n.control.node).zeroExtend 8, (codeNumber n.link.accepted).zeroExtend 8,
   (n.link.address.getD 0).zeroExtend 8, BitVec.ofNat 8 (speedStateCode n.tracker.state)]
  ++ unsignedBytes 2 n.tracker.speed ++ unsignedBytes 2 n.tracker.raw
  ++ [indexByte n.tracker.band, n.tracker.cabin.zeroExtend 8, BitVec.ofNat 8 (slotsHeld n),
      BitVec.ofNat 8 n.eq.waiting.length]
  ++ n.ramps.toList.map rampByte

/-- R172: presence, bit p for program p. -/
def presenceByte (n : Node) : Byte :=
  BitVec.ofNat 8 ((List.finRange 4).foldl (fun a p => if n.detectors[p].present then a + 2 ^ p.val else a) 0)

/-- R163, R172: the ZONE record of zone z. -/
def zoneRecord (n : Node) (z : Fin 4) : List Byte :=
  [BitVec.ofNat 8 n.live.zones[z].volumeIndex] ++ signedBytes 2 n.live.zones[z].volumeCode
  ++ signedBytes 1 n.live.zones[z].balance ++ signedBytes 1 n.live.zones[z].fade
  ++ [flagByte n.live.zones[z].mute]
  ++ unsignedBytes 1 n.tracker.zones[z].target ++ signedBytes 1 (appliedLift n z)
  ++ unsignedBytes 1 n.tracker.zones[z].bass ++ signedBytes 2 n.guards[z].code
  ++ (List.finRange 4).flatMap (fun p => signedBytes 2 n.levels.pairs[pairIndex z p].applied)
  ++ (List.finRange 4).flatMap (fun p => signedBytes 2 (duckCode n z p))
  ++ [presenceByte n]

/-- R96: the crossfade target of a SPEAKER view. -/
def viewTarget (r : EqRecord) : Option SetRef :=
  match r.phase with
  | .idle => none
  | .waiting q => some q
  | .fading t _ => some t

/-- R96: the pending set of a SPEAKER view. -/
def viewPending (r : EqRecord) : Option SetRef :=
  match r.phase with
  | .idle => none
  | .waiting _ => none
  | .fading _ p => p

/-- R163, R172: the SPEAKER record of speaker k. -/
def speakerRecord (n : Node) (k : Fin 24) : List Byte :=
  signedBytes 2 n.levels.speakers[k].applied ++ signedBytes 2 n.levels.speakers[k].effective
  ++ [flagByte n.live.mutes[k], setRefByte n.eq.records[k].current, optSetRefByte (viewTarget n.eq.records[k]),
      optSetRefByte (viewPending n.eq.records[k]), BitVec.ofNat 8 (queuePlace n k),
      BitVec.ofNat 8 n.levels.clips[k].count]

/-- R172: the event flags in two bytes, bits 13 to 15 sent as 0. -/
def eventBytes (n : Node) : List Byte := unsignedBytes 2 n.events.toNat

/-- R163: reading a SPEAKER view sets the speaker's clip count to 0. -/
def clearClipCount (k : Fin 24) (n : Node) : Node :=
  { n with levels := { n.levels with clips := modifyVec k (fun c => { c with count := 0 }) n.levels.clips } }

/-- R163: STATUS_READ. -/
def carryStatusRead (m : Message) (n : Node) : Node :=
  match m.payload with
  | [hi, lo, kind, number] =>
    let mask := BitVec.ofNat 13 (unsignedOf [hi, lo])
    if kind = 0 then
      clearEvents mask (postReply m ([0x00] ++ eventBytes n ++ [kind, number] ++ nodeRecord n) n)
    else if kind = 1 then
      match indexOf 4 number with
      | some z => clearEvents mask (postReply m ([0x00] ++ eventBytes n ++ [kind, number] ++ zoneRecord n z) n)
      | none => postReply m ([0x02] ++ eventBytes n) n
    else if kind = 2 then
      match indexOf 24 number with
      | some k =>
        clearClipCount k
          (clearEvents mask (postReply m ([0x00] ++ eventBytes n ++ [kind, number] ++ speakerRecord n k) n))
      | none => postReply m ([0x02] ++ eventBytes n) n
    else postReply m ([0x03] ++ eventBytes n) n
  | _ => n

end Sys2Proof.Machine
end

