-- ==== Sys2Proof/Machine/Executor.lean ====
section
/-! DEFINITION. The message executor (R155 to R157): the request check, the stall of a read, the take of a lane. -/

namespace Sys2Proof.Machine

/-- The thirteen request kinds (R156). -/
inductive Kind where
  | tableWrite | tableRead | eqSelect | identRead | level | programTrim | balanceFade | mute | speed | cabin
  | presence | rampControl | statusRead
  deriving DecidableEq, Repr

/-- R156: a kind's code. -/
def kindCode : Kind → Byte
  | .tableWrite => 0x10
  | .tableRead => 0x11
  | .eqSelect => 0x12
  | .identRead => 0x13
  | .level => 0x20
  | .programTrim => 0x21
  | .balanceFade => 0x22
  | .mute => 0x23
  | .speed => 0x24
  | .cabin => 0x25
  | .presence => 0x26
  | .rampControl => 0x27
  | .statusRead => 0x28

/-- R156: the kind of a code; any other code is no kind. -/
def kindOf (b : Byte) : Option Kind :=
  match b.toNat with
  | 0x10 => some .tableWrite
  | 0x11 => some .tableRead
  | 0x12 => some .eqSelect
  | 0x13 => some .identRead
  | 0x20 => some .level
  | 0x21 => some .programTrim
  | 0x22 => some .balanceFade
  | 0x23 => some .mute
  | 0x24 => some .speed
  | 0x25 => some .cabin
  | 0x26 => some .presence
  | 0x27 => some .rampControl
  | 0x28 => some .statusRead
  | _ => none

/-- R156: the lane a kind belongs to. -/
def kindLane : Kind → LaneId
  | .tableWrite | .tableRead | .eqSelect | .identRead => .setting
  | .level | .programTrim | .balanceFade | .mute | .speed | .cabin | .presence | .rampControl | .statusRead => .live

/-- R156: the read kinds, those with a reply. -/
def isRead : Kind → Bool
  | .tableRead | .identRead | .statusRead => true
  | .tableWrite | .eqSelect | .level | .programTrim | .balanceFade | .mute | .speed | .cabin | .presence
  | .rampControl => false

/-- R156, R171: the payload length of a kind; TABLE_WRITE has 5 bytes or more. -/
def lengthFits (k : Kind) (len : Nat) : Bool :=
  match k with
  | .tableWrite => decide (5 ≤ len)
  | .tableRead => len == 5
  | .eqSelect => len == 5
  | .identRead => len == 0
  | .level => len == 4
  | .programTrim => len == 4
  | .balanceFade => len == 3
  | .mute => len == 5
  | .speed => len == 3
  | .cabin => len == 1
  | .presence => len == 2
  | .rampControl => len == 3
  | .statusRead => len == 4

/-- R156: the kind of a message that passes the request check on a lane, none for a bad request. -/
def requestKind (l : LaneId) (m : Message) : Option Kind :=
  match kindOf m.kind with
  | some k =>
    if kindLane k = l ∧ lengthFits k m.payload.length ∧ ¬(isRead k ∧ m.dest = 0xF) then some k else none
  | none => none

/-- A message that passed the request check is carried out by the rule of its kind (R156). -/
def carryOut (k : Kind) (m : Message) (n : Node) : Node :=
  match k with
  | .tableWrite => carryTableWrite m.payload n
  | .tableRead => carryTableRead m n
  | .eqSelect => carryEqSelect m.payload n
  | .identRead => carryIdentRead m n
  | .level => carryLevel m.payload n
  | .programTrim => carryProgramTrim m.payload n
  | .balanceFade => carryBalanceFade m.payload n
  | .mute => carryMute m.payload n
  | .speed => carrySpeed m.payload n
  | .cabin => carryCabin m.payload n
  | .presence => carryPresence m.payload n
  | .rampControl => carryRampControl m.payload n
  | .statusRead => carryStatusRead m n

/-- R156: a taken message, carried out or discarded as a bad request. -/
def perform (l : LaneId) (m : Message) (n : Node) : Node :=
  match requestKind l m with
  | some k => carryOut k m n
  | none => raise .badRequest n

/-- R157: a read that passes the request check waits while the reply queue holds 4. -/
def stalled (l : LaneId) (m : Message) (n : Node) : Bool :=
  match requestKind l m with
  | some k => isRead k && decide (replyCapacity ≤ n.replies.length)
  | none => false

/-- A lane's queue without its head. -/
def popLane (l : LaneId) (n : Node) : Node := withLane l { laneOf l n with queue := (laneOf l n).queue.tail } n

/-- R155, R157: the executor's take on one lane at a boundary. -/
def takeLane (l : LaneId) (n : Node) : Node :=
  if executorRuns n.control.node then
    match (laneOf l n).queue with
    | [] => n
    | m :: _ => if stalled l m n then n else perform l m (popLane l n)
  else n

end Sys2Proof.Machine
end

