-- ==== Sys2Proof/Machine/Boundary.lean ====
section
/-! DEFINITION. The block boundary (R155, R35, R67, R104, R119, R86, R95, R140): it opens after the last frame of a
block with every work to be taken once, and ends when each has been taken. Log entries 1, 2, 3. -/

namespace Sys2Proof.Machine

/-- The works of a boundary, in the order in which they are listed; the order of taking is open. -/
def allWorks : List Work :=
  [.liveTake, .settingTake, .judge 0, .judge 1, .judge 2, .judge 3, .track, .guardStep,
   .ramp 0, .ramp 1, .ramp 2, .ramp 3, .ramp 4, .ramp 5,
   .complete 0, .complete 1, .complete 2, .complete 3, .complete 4, .complete 5, .complete 6, .complete 7,
   .shelf, .compose, .starting]

/-- R140: the clear count of STARTING rises; at 256 the node enters the state of the accepted code. -/
def countStarting (n : Node) : Node :=
  if n.control.node = .starting then
    { n with control := { n.control with
        clearCount := n.control.clearCount + 1,
        node := if 256 ≤ n.control.clearCount + 1 then stateOfCode n.link.accepted else .starting } }
  else n

/-- R140: this boundary's count ends STARTING. -/
def startingEnds (n : Node) : Bool := n.control.node == .starting && decide (256 ≤ n.control.clearCount + 1)

/-- What a work does when it is taken in a state with block boundaries. -/
def doWork (w : Work) (n : Node) : Node :=
  match w with
  | .liveTake => takeLane .live n
  | .settingTake => takeLane .setting n
  | .judge p => judgeProgram p n
  | .track => trackStep n
  | .guardStep => guardStep n
  | .ramp u => rampStep u n
  | .complete k => completeFade k n
  | .shelf => formShelf n
  | .compose => composeLevels n
  | .starting => countStarting n

/-- R105: of the ramp units that a mask names, some have taken their step of this boundary and some have not. -/
def splitsUnits (mask : Nat) (works : List Work) : Bool :=
  ((List.finRange 6).any fun u => maskBit mask u.val && works.contains (.ramp u)) &&
    (List.finRange 6).any fun u => maskBit mask u.val && !works.contains (.ramp u)

/-- R105: the live lane's head is a RAMP_CONTROL, and the steps of the units it names stand on both sides of it. Units
started by one message enter their first segments at the same boundary, so it is not carried out between their steps;
before or after all of them it may be (R106). -/
def rampControlSplit (n : Node) : Bool :=
  match n.liveLane.queue with
  | [] => false
  | m :: _ =>
    requestKind .live m == some .rampControl &&
      match m.payload with
      | [] => false
      | mask :: _ => splitsUnits mask.toNat n.boundary

/-- Whether a work may be taken next: the setting lane after the live lane (R155), due completions in slot order
(R86), the end of STARTING before or after the executor's take and not inside it (R140), a RAMP_CONTROL not between
the steps of the units it names (R105). -/
def mayTake (n : Node) (w : Work) : Bool :=
  match w with
  | .settingTake => !n.boundary.contains .liveTake
  | .starting => n.boundary.contains .liveTake || !n.boundary.contains .settingTake
  | .complete k => (List.finRange 8).all fun j =>
      !(decide (j < k) && n.boundary.contains (.complete j) && fadeDue j n)
  | .liveTake => !rampControlSplit n
  | .judge _ => true
  | .track => true
  | .guardStep => true
  | .ramp _ => true
  | .shelf => true
  | .compose => true

/-- A work stands untaken at the boundary and may be taken next. -/
def workDue (w : Work) (n : Node) : Bool :=
  inService n.control.node && n.boundary.contains w && mayTake n w

/-- Take a work: it leaves the boundary and does what it does. -/
def takeWork (w : Work) (n : Node) : Node :=
  if inService n.control.node then doWork w { n with boundary := n.boundary.erase w }
  else { n with boundary := n.boundary.erase w }

/-- The works that may be taken next. -/
def choices (n : Node) : List Work := n.boundary.filter (mayTake n)

/-- The work taken next: the only one, or the free value's pick. -/
def nextWork (n : Node) : Option Work :=
  match choices n with
  | [] => none
  | [w] => some w
  | ws => ws[Config.boundaryPick n.choice % ws.length]?

/-- Take works one after another, `fuel` at most. -/
def runWorks : Nat → Node → Node
  | 0, n => n
  | fuel + 1, n =>
    match nextWork n with
    | none => n
    | some w => runWorks fuel (takeWork w { n with choice := n.choice + 1 })

/-- Complete the standing boundary: every work that is left is taken. -/
def completeBoundary (n : Node) : Node := runWorks n.boundary.length n

/-- R124, R43: after the last frame of a block the boundary opens with every work, and the clip marks are handed on. -/
def openBoundary (n : Node) : Node :=
  if inService n.control.node then { handOverMarks n with boundary := allWorks } else n

/-- R124: a frame period is counted; the 32nd of a block opens the boundary. -/
def countFrame (n : Node) : Node :=
  if 32 ≤ n.link.frameInBlock + 1 then
    openBoundary { n with link := { n.link with frameInBlock := 0, block := n.link.block + 1 } }
  else { n with link := { n.link with frameInBlock := n.link.frameInBlock + 1 } }

/-- The boundary at which an event comes about: its work stands and may be taken, and its condition holds. Otherwise
the event does not come about and nothing changes (log entry 4). -/
def takeEvent (w : Work) (happens : Bool) (n : Node) : Node :=
  if workDue w n && happens then takeWork w n else n

end Sys2Proof.Machine
end

