-- ==== Sys2Proof/Machine/Frames.lean ====
section
/-! DEFINITION. Frame periods: processed and missed head-side frames (R122, R125, R128, R134, R136, R175), and whole
messages arriving on a lane. -/

namespace Sys2Proof.Machine

/-- R134, R136: the upstream frame of the period; it reports the node before this period's frame is taken (R175). -/
def sendUpstream (n : Node) : Node :=
  if n.control.node = .passive then passiveUpstream n else ownUpstream n

/-- R128, R134: the two-period delays advance: the downstream frame formed two periods ago is sent, and the upstream
frames received move one place. -/
def advanceDelays (n : Node) : Node :=
  { n with link := { n.link with
      ampTx := n.link.formed2, formed2 := n.link.formed1, formed1 := none,
      upPrev := n.link.upNow, upNow := none } }

/-- R128: the frame formed from this period's frame is kept to be sent two periods later. -/
def keepFormed (f : DownFrame) (n : Node) : Node :=
  { n with link := { n.link with formed1 := some f, lastHop := f.hop } }

/-- R132, R131: the frame's code and then its hop count are taken; a missed frame has no code and no hop count and
sets the mismatch count to 0. R133: the other order ends in the same state (log entry 12). -/
def takeHeader (f : Option DownFrame) (n : Node) : Node :=
  match f with
  | some f => hopCheck f.hop (takeCode (codeOf f.code) f.hop n)
  | none => setMismatch 0 (takeCode none 0 n)

/-- R122, R125: the cells of a frame, IDLE for a missed frame. -/
def takeFrameCells (f : Option DownFrame) (n : Node) : Node :=
  match f with
  | some f => takeCells f.setting f.live n
  | none => takeCells idleCell idleCell n

/-- Whether this frame makes CLEAR the accepted code. -/
def clearArrives (f : Option DownFrame) (n : Node) : Bool :=
  match f with
  | some f => codeOf f.code == some .clear && codeAccepted (codeOf f.code) n
  | none => false

/-- R147: header and cells of a frame, in the open order when CLEAR is accepted in it (log entry 6). Two cases that the
manual does not settle are the model's choice. DESIGN CHOICE (log entry 34), unsafe: with the CLEAR first, a lane that was
READY takes an END cell of that frame as a message of 1 byte by R152 and sets MALFORMED, though R147 says that no event
flag stands after the frame. DESIGN CHOICE (log entry 35), unsafe: with the cells first, a CLEAR out of PASSIVE into
STARTING finds them taken by no lane, as PASSIVE takes none (R151), though R147 processes the frame in the new state. -/
def takeControl (f : Option DownFrame) (n : Node) : Node :=
  if clearArrives f n then
    if Config.lanesBeforeClear n.choice then
      takeHeader f (takeFrameCells f { n with choice := n.choice + 1 })
    else takeFrameCells f (takeHeader f { n with choice := n.choice + 1 })
  else takeFrameCells f (takeHeader f n)

/-- The slots a frame brings, zeros for a missed frame (R125). -/
def frameSlots (f : Option DownFrame) : Vector Sample 32 :=
  match f with
  | some f => f.slots
  | none => .replicate 32 0

/-- R128, R136, R169: the downstream frame formed from a received frame, or from a missed frame's substitute content.
A passive node forwards the fill as it stands, any other sends it as zero (log entry 8). -/
def formedFrame (f : Option DownFrame) (slots : Vector Sample 32) (n : Node) : DownFrame :=
  match f with
  | some f =>
    { f with
      hop := raiseHop f.hop
      slots := slots
      fill := if n.control.node = .passive then f.fill else 0 }
  | none => { hop := n.link.lastHop, code := 0, setting := idleCell, live := idleCell, slots := slots, fill := 0 }

/-- R4, R11: sources are read and the block peaks raised, in the states in which sources are read. -/
def takeSources (slots : Vector Sample 32) (n : Node) : Node :=
  if inService n.control.node then takePeaks slots n else n

/-- R129, R128: the sample path in the state that governs the frame, and the frame formed. -/
def formFrame (f : Option DownFrame) (n : Node) : Node :=
  keepFormed (formedFrame f (audioFrame (frameSlots f) n).2 n) (audioFrame (frameSlots f) n).1

/-- A frame period in order: the standing boundary is completed, the upstream frame sent, the delays advanced, the
frame's control content taken, its sources read, its downstream frame formed, the period counted. -/
def framePeriod (f : Option DownFrame) (n : Node) : Node :=
  countFrame (formFrame f (takeSources (frameSlots f) (takeControl f (advanceDelays (sendUpstream
    (completeBoundary n))))))

/-- R122, R125: a processed downstream frame, received while the head side is LOCKED. -/
def frameReceived (f : DownFrame) (n : Node) : Node :=
  match n.link.head with
  | .locked _ => framePeriod (some f) (setHead (.locked 0) n)
  | .hunting _ => n

/-- R125, R126: a missed frame; the fourth in a row loses lock and is not processed. -/
def frameMissed (n : Node) : Node :=
  match n.link.head with
  | .locked m =>
    if 4 ≤ m + 1 then headLoss (completeBoundary n) else framePeriod none (setHead (.locked (m + 1)) n)
  | .hunting _ => n

/-- The message that a command spells: its header, the kind of the command, its payload (R150). -/
def commandMessage (h : MsgHeader) (k : Kind) (payload : List Byte) : Message :=
  { dest := h.dest, origin := h.origin, kind := kindCode k, tag := h.tag, payload := payload }

/-- R155: a boundary stands at which the executor may take this lane next: the setting lane when the live lane has
been taken or has nothing to take. -/
def laneDue (l : LaneId) (n : Node) : Bool :=
  executorRuns n.control.node &&
    match l with
    | .live => n.boundary.contains .liveTake
    | .setting => n.boundary.contains .settingTake &&
        (!n.boundary.contains .liveTake || n.liveLane.queue.isEmpty)

/-- R155: the executor's take on a lane that is due; with the setting lane the live lane's take is over. -/
def takeLaneNow (l : LaneId) (n : Node) : Node :=
  match l with
  | .live => takeWork .liveTake n
  | .setting => takeWork .settingTake { n with boundary := n.boundary.erase .liveTake }

/-- R105: the head of a lane's queue may be carried out among the works that are left. -/
def headFits (l : LaneId) (n : Node) : Bool :=
  match l with
  | .live => !rampControlSplit n
  | .setting => true

/-- A message arriving whole on its kind's lane (log entry 5): judged as at its END cell (R153), and, when a boundary
stands at which the executor may take this lane and nothing was queued before it, taken there (R155), unless it is a
RAMP_CONTROL that would fall between the steps of its units (R105). Otherwise it waits in its queue. In DETACHED and PASSIVE no message is received (R151). -/
def deliver (h : MsgHeader) (k : Kind) (payload : List Byte) (n : Node) : Node :=
  if inService n.control.node then
    let m := judgeMessage (kindLane k) (messageBytes (commandMessage h k payload)) n
    if laneDue (kindLane k) n && (laneOf (kindLane k) n).queue.isEmpty && !(laneOf (kindLane k) m).queue.isEmpty &&
        headFits (kindLane k) m then
      takeLaneNow (kindLane k) m
    else m
  else n

/-- R167: an own reply may start in the coming frame period, judged with the input cell that the period will take
(log entry 15). -/
def replyDue (n : Node) : Bool :=
  inService n.control.node && replyMayStart n.replies (mergerTake (mergerCell n.link) n.merger)

/-- R167: an own reply starts. -/
def replyStarts (n : Node) : Node :=
  if replyDue n then { n with merger := { n.merger with output := .sendingReply 0 } } else n

end Sys2Proof.Machine
end

