-- ==== Sys2Proof/Machine/LinkCommands.lean ====
section
/-! DEFINITION. The meanings of the commands of the reset input, the head-side port and the amp-side port. -/

namespace Sys2Proof.Machine

/-- What a command answers. -/
abbrev Result := Host.Outcome State Fault Refusal

/-- A command that runs: its effect on the node, the queue as it stands. -/
def answer (f : Node → Node) (s : State) : Result := .next { s with node := f s.node }

/-- RESET_ASSERT (R138). -/
def execResetAssert (s : State) : Result := answer assertReset s

/-- RESET_RELEASE (R138). -/
def execResetRelease (s : State) : Result := answer releaseReset s

/-- HEAD_HUNT_SYNC (R124). -/
def execHeadHuntSync (seen : SyncSeen) (hop : BitVec 3) (s : State) : Result := answer (headHunt seen hop) s

/-- FIRST_LOCK (R139): the eighth sync of a run, the address unlatched. -/
def execFirstLock (hop : BitVec 3) (s : State) : Result :=
  answer (fun n => if headLockDue n && n.link.address.isNone then firstLock hop n else n) s

/-- RELOCK (R149): the eighth sync of a run, the address latched. -/
def execRelock (hop : BitVec 3) (s : State) : Result :=
  answer (fun n => if headLockDue n && n.link.address.isSome then relock hop n else n) s

/-- DOWNSTREAM_FRAME (R122). -/
def execDownstreamFrame (frame : DownFrame) (s : State) : Result := answer (frameReceived frame) s

/-- MISSED_FRAME (R125). -/
def execMissedFrame (s : State) : Result := answer frameMissed s

/-- HEAD_LOSS_OF_LOCK (R126): the fourth missed frame in a row. -/
def execHeadLossOfLock (s : State) : Result :=
  answer (fun n => if n.link.head = .locked 3 then headLoss (completeBoundary n) else n) s

/-- REPLY_START (R167), in the frame period after the boundary before it. -/
def execReplyStart (s : State) : Result := answer (fun n => replyStarts (completeBoundary n)) s

/-- UPSTREAM_FRAME_RECEIVE (R166, R127). -/
def execUpstreamFrameReceive (frame : UpFrame) (s : State) : Result := answer (ampReceive frame) s

/-- AMP_LOCK (R127): the eighth sync of a run on the amp side. -/
def execAmpLock (s : State) : Result := answer (fun n => if ampLockDue n then ampLock n else n) s

/-- AMP_MISSED_FRAME (R127). -/
def execAmpMissedFrame (s : State) : Result := answer ampMissed s

/-- AMP_LOSS_OF_LOCK (R168): the fourth missed upstream frame in a row. -/
def execAmpLossOfLock (s : State) : Result :=
  answer (fun n => if n.link.amp = .locked 3 then ampLoss n else n) s

/-- AMP_HUNT_SYNC (R127). -/
def execAmpHuntSync (seen : SyncSeen) (s : State) : Result := answer (ampHunt seen) s

end Sys2Proof.Machine
end

