-- ==== Sys2Proof/Machine/CodeCommands.lean ====
section
/-! DEFINITION. The meanings of the command codes and of a hop mismatch, each the take of one frame's code or hop
count (R131, R132; log entry 13). A frame comes after the boundary before it, so a standing boundary is completed
first. -/

namespace Sys2Proof.Machine

/-- R132: one frame's command code is taken, after the boundary before that frame (log entry 13). -/
def takeCodeAlone (c : Code) (hop : BitVec 3) (n : Node) : Node := takeCode (some c) hop (completeBoundary n)

/-- RUN (R132, R142). -/
def execRun (s : State) : Result := answer (takeCodeAlone .run 0) s

/-- QUIET (R132, R142). -/
def execQuiet (s : State) : Result := answer (takeCodeAlone .quiet 0) s

/-- HALT (R132, R142). -/
def execHalt (s : State) : Result := answer (takeCodeAlone .halt 0) s

/-- CLEAR (R132, R147), in a frame of the given hop count. -/
def execClear (hop : BitVec 3) (s : State) : Result := answer (takeCodeAlone .clear hop) s

/-- HOP_MISMATCH_FAULT (R131, R144): the check of a frame's hop count, after the boundary before that frame. -/
def execHopMismatchFault (hop : BitVec 3) (s : State) : Result :=
  answer (fun n => hopCheck hop (completeBoundary n)) s

end Sys2Proof.Machine
end

