-- ==== Sys2Proof/Machine/BoundaryCommands.lean ====
section
/-! DEFINITION. The meanings of BLOCK_BOUNDARY and of the events inside a boundary. Each event is the work of its
block at the standing boundary, when that work brings the event about. -/

namespace Sys2Proof.Machine

/-- BLOCK_BOUNDARY (R155): every work of the standing boundary that is left is taken. -/
def execBlockBoundary (s : State) : Result := answer completeBoundary s

/-- PRESENCE_HOLD_EXPIRY (R12). -/
def execPresenceHoldExpiry (program : Fin 4) (s : State) : Result :=
  answer (fun n => takeEvent (.judge program) (presenceExpires program n) n) s

/-- LIFT_RELEASE_STEP (R61). -/
def execLiftReleaseStep (zone : Fin 4) (s : State) : Result :=
  answer (fun n => takeEvent .track (liftReleases zone n) n) s

/-- STALE_TIME_EXPIRY (R53). -/
def execStaleTimeExpiry (s : State) : Result := answer (fun n => takeEvent .track (staleExpires n) n) s

/-- FAIL_TIME_EXPIRY (R54). -/
def execFailTimeExpiry (s : State) : Result := answer (fun n => takeEvent .track (failExpires n) n) s

/-- GUARD_HOLD_END (R116). -/
def execGuardHoldEnd (zone : Fin 4) (s : State) : Result :=
  answer (fun n => takeEvent .guardStep (guardHoldEnds zone n) n) s

/-- GUARD_RECOVERY_STEP (R116). -/
def execGuardRecoveryStep (zone : Fin 4) (s : State) : Result :=
  answer (fun n => takeEvent .guardStep (guardRecovers zone n) n) s

/-- RAMP_SEGMENT_CLOSE (R100, R102). -/
def execRampSegmentClose (unit : Fin 6) (s : State) : Result :=
  answer (fun n => takeEvent (.ramp unit) (segmentCloses unit n) n) s

/-- CROSSFADE_COMPLETE (R86). -/
def execCrossfadeComplete (slot : Fin 8) (s : State) : Result :=
  answer (fun n => takeEvent (.complete slot) (fadeDue slot n) n) s

/-- CROSSFADE_HANDOVER (R84): a slot that stands free goes to the head of the wait queue; a slot whose completion
releases it is completed, which hands it over (log entry 30). -/
def execCrossfadeHandover (slot : Fin 8) (s : State) : Result :=
  answer (fun n =>
    if n.eq.slots[slot].isNone then handOver slot n
    else takeEvent (.complete slot) (completionReleases slot n && !n.eq.waiting.isEmpty) n) s

/-- STARTING_END (R140). -/
def execStartingEnd (s : State) : Result := answer (fun n => takeEvent .starting (startingEnds n) n) s

end Sys2Proof.Machine
end

