-- ==== Sys2Proof/Machine/MessageCommands.lean ====
section
/-! DEFINITION. The meanings of the message commands: a whole message arriving on its lane and, at a standing
boundary, carried out by the executor (log entry 5). The rules of each kind stand in SettingMessages.lean and
LiveMessages.lean. -/

namespace Sys2Proof.Machine

/-- TABLE_WRITE (R158). -/
def execTableWrite (header : MsgHeader) (payload : List Byte) (s : State) : Result :=
  answer (deliver header .tableWrite payload) s

/-- TABLE_READ (R159). -/
def execTableRead (header : MsgHeader) (payload : List Byte) (s : State) : Result :=
  answer (deliver header .tableRead payload) s

/-- EQ_SELECT (R76). -/
def execEqSelect (header : MsgHeader) (payload : List Byte) (s : State) : Result :=
  answer (deliver header .eqSelect payload) s

/-- IDENT_READ (R160). -/
def execIdentRead (header : MsgHeader) (payload : List Byte) (s : State) : Result :=
  answer (deliver header .identRead payload) s

/-- LEVEL (R31). -/
def execLevel (header : MsgHeader) (payload : List Byte) (s : State) : Result :=
  answer (deliver header .level payload) s

/-- PROGRAM_TRIM (R32). -/
def execProgramTrim (header : MsgHeader) (payload : List Byte) (s : State) : Result :=
  answer (deliver header .programTrim payload) s

/-- BALANCE_FADE (R33). -/
def execBalanceFade (header : MsgHeader) (payload : List Byte) (s : State) : Result :=
  answer (deliver header .balanceFade payload) s

/-- MUTE (R34). -/
def execMute (header : MsgHeader) (payload : List Byte) (s : State) : Result :=
  answer (deliver header .mute payload) s

/-- SPEED (R50). -/
def execSpeed (header : MsgHeader) (payload : List Byte) (s : State) : Result :=
  answer (deliver header .speed payload) s

/-- CABIN (R55). -/
def execCabin (header : MsgHeader) (payload : List Byte) (s : State) : Result :=
  answer (deliver header .cabin payload) s

/-- PRESENCE (R13). -/
def execPresence (header : MsgHeader) (payload : List Byte) (s : State) : Result :=
  answer (deliver header .presence payload) s

/-- RAMP_CONTROL (R105). -/
def execRampControl (header : MsgHeader) (payload : List Byte) (s : State) : Result :=
  answer (deliver header .rampControl payload) s

/-- STATUS_READ (R163). -/
def execStatusRead (header : MsgHeader) (payload : List Byte) (s : State) : Result :=
  answer (deliver header .statusRead payload) s

end Sys2Proof.Machine
end

