-- ==== Sys2Proof/Machine/Dispatch.lean ====
section
/-! DEFINITION. One arm for each row of spec/opcode_table.json. -/

namespace Sys2Proof.Machine

def exec (i : Instr) (s : State) : Host.Outcome State Fault Refusal :=
  match i with
  | .resetAssert => Sys2Proof.Machine.execResetAssert s
  | .resetRelease => Sys2Proof.Machine.execResetRelease s
  | .headHuntSync seen hop => Sys2Proof.Machine.execHeadHuntSync seen hop s
  | .firstLock hop => Sys2Proof.Machine.execFirstLock hop s
  | .relock hop => Sys2Proof.Machine.execRelock hop s
  | .downstreamFrame frame => Sys2Proof.Machine.execDownstreamFrame frame s
  | .missedFrame => Sys2Proof.Machine.execMissedFrame s
  | .headLossOfLock => Sys2Proof.Machine.execHeadLossOfLock s
  | .replyStart => Sys2Proof.Machine.execReplyStart s
  | .upstreamFrameReceive frame => Sys2Proof.Machine.execUpstreamFrameReceive frame s
  | .ampLock => Sys2Proof.Machine.execAmpLock s
  | .ampMissedFrame => Sys2Proof.Machine.execAmpMissedFrame s
  | .ampLossOfLock => Sys2Proof.Machine.execAmpLossOfLock s
  | .run => Sys2Proof.Machine.execRun s
  | .quiet => Sys2Proof.Machine.execQuiet s
  | .halt => Sys2Proof.Machine.execHalt s
  | .clear hop => Sys2Proof.Machine.execClear hop s
  | .hopMismatchFault hop => Sys2Proof.Machine.execHopMismatchFault hop s
  | .blockBoundary => Sys2Proof.Machine.execBlockBoundary s
  | .presenceHoldExpiry program => Sys2Proof.Machine.execPresenceHoldExpiry program s
  | .liftReleaseStep zone => Sys2Proof.Machine.execLiftReleaseStep zone s
  | .staleTimeExpiry => Sys2Proof.Machine.execStaleTimeExpiry s
  | .failTimeExpiry => Sys2Proof.Machine.execFailTimeExpiry s
  | .guardHoldEnd zone => Sys2Proof.Machine.execGuardHoldEnd zone s
  | .guardRecoveryStep zone => Sys2Proof.Machine.execGuardRecoveryStep zone s
  | .rampSegmentClose unit => Sys2Proof.Machine.execRampSegmentClose unit s
  | .crossfadeComplete slot => Sys2Proof.Machine.execCrossfadeComplete slot s
  | .crossfadeHandover slot => Sys2Proof.Machine.execCrossfadeHandover slot s
  | .startingEnd => Sys2Proof.Machine.execStartingEnd s
  | .tableWrite header payload => Sys2Proof.Machine.execTableWrite header payload s
  | .tableRead header payload => Sys2Proof.Machine.execTableRead header payload s
  | .eqSelect header payload => Sys2Proof.Machine.execEqSelect header payload s
  | .identRead header payload => Sys2Proof.Machine.execIdentRead header payload s
  | .level header payload => Sys2Proof.Machine.execLevel header payload s
  | .programTrim header payload => Sys2Proof.Machine.execProgramTrim header payload s
  | .balanceFade header payload => Sys2Proof.Machine.execBalanceFade header payload s
  | .mute header payload => Sys2Proof.Machine.execMute header payload s
  | .speed header payload => Sys2Proof.Machine.execSpeed header payload s
  | .cabin header payload => Sys2Proof.Machine.execCabin header payload s
  | .presence header payload => Sys2Proof.Machine.execPresence header payload s
  | .rampControl header payload => Sys2Proof.Machine.execRampControl header payload s
  | .statusRead header payload => Sys2Proof.Machine.execStatusRead header payload s
  | .ampHuntSync seen => Sys2Proof.Machine.execAmpHuntSync seen s

end Sys2Proof.Machine
end

