-- ==== Sys2Proof/Safety.lean ====
section
/-! DEFINITION. What a safe run of the node is, in the manual's own laws: the invariants that every step keeps from
every state that has them, the words in which the statements speak of a message that arrives at its boundary,
and the manual's bytes, in which they spell payloads. -/

namespace Sys2Proof.Machine

/-- R154: the setting queue never holds more than 4 messages, the live queue never more than 8, and the reply queue
never more than 4. -/
structure QueuesFit (n : Node) : Prop where
  setting : n.settingLane.queue.length ≤ 4
  live : n.liveLane.queue.length ≤ 8
  replies : n.replies.length ≤ 4

/-- R28: no two enabled speakers name the same output slot. -/
def SlotsDistinct (n : Node) : Prop :=
  ∀ j k : Fin 24, n.tables.speakers[j].enabled = true → n.tables.speakers[k].enabled = true →
    n.tables.speakers[j].slot = n.tables.speakers[k].slot → j = k

/-- A gain in its range: R39 and R40, with the linear gain formed from the effective code (R21). -/
structure GainFits (hi : Int) (g : Gain) : Prop where
  applied_low : -960 ≤ g.applied
  applied_high : g.applied ≤ hi
  effective_low : -960 ≤ g.effective
  effective_high : g.effective ≤ hi
  linear : g.linear = linearGain g.effective

/-- R39, R40: every program-zone code lies within -960..0 and every speaker code within -960..192, and each linear
gain is that of its effective code. -/
structure CodesFit (n : Node) : Prop where
  pairs : ∀ i : Fin 16, GainFits 0 n.levels.pairs[i]
  speakers : ∀ k : Fin 24, GainFits 192 n.levels.speakers[k]

/-- A receiver's counts as its states hold them: a run of 0 to 7 while HUNTING, 0 to 3 misses while LOCKED (R124 to
R127). -/
def receiverFits : Receiver → Prop
  | .hunting run => run < 8
  | .locked miss => miss < 4

/-- R126, R127, R130, R131, R137, R139, R146, R148: how the link port and the node state stand to each other. -/
structure LinkFits (n : Node) : Prop where
  /-- The node is DETACHED exactly while the head-side receiver hunts. -/
  lock : n.control.node = .detached ↔ ∃ run, n.link.head = .hunting run
  head : receiverFits n.link.head
  amp : receiverFits n.link.amp
  /-- A detached node sends nothing on either port, its amp side hunts from 0 and no boundary stands. -/
  silent : n.control.node = .detached → n.link.ampTx = none ∧ n.link.headTx = none ∧ n.link.formed1 = none ∧
    n.link.formed2 = none ∧ n.link.amp = .hunting 0 ∧ n.link.candidate = none ∧ n.boundary = []
  /-- Outside DETACHED the address is latched; an address of 4 to 7 makes the node PASSIVE and no other does. -/
  place : n.control.node ≠ .detached →
    ∃ a, n.link.address = some a ∧ (4 ≤ a.toNat ↔ n.control.node = .passive)
  /-- In DETACHED with the address latched the return state is one the address allows. -/
  back : n.control.node = .detached → ∀ a, n.link.address = some a →
    ∃ r, n.control.returnState = some r ∧ r ≠ .detached ∧ (4 ≤ a.toNat ↔ r = .passive)
  /-- R131: the mismatch count, which reaches 2 only on the way into FAULT, is 0 where the check does not run. -/
  mismatch : n.link.mismatch < 2 ∧ (hopCheckRuns n.control.node = false → n.link.mismatch = 0)
  frames : n.link.frameInBlock < 32

/-- R77, R83, R84, R89, R91: the law of the crossfade slots and the wait queue. -/
structure CrossfadesFit (n : Node) : Prop where
  /-- The wait queue holds the speakers in WAITING, each once. -/
  waiting : ∀ k : Fin 24, k ∈ n.eq.waiting ↔ ∃ q, n.eq.records[k].phase = .waiting q
  nodup : n.eq.waiting.Nodup
  /-- The speakers in FADING are those that hold a slot. -/
  fading : ∀ k : Fin 24, (∃ t p, n.eq.records[k].phase = .fading t p) ↔
    ∃ i : Fin 8, ∃ h, n.eq.slots[i] = some h ∧ h.speaker = k
  /-- No speaker holds two slots. -/
  single : ∀ (i j : Fin 8) (h g : Held), n.eq.slots[i] = some h → n.eq.slots[j] = some g →
    h.speaker = g.speaker → i = j
  /-- The queue is never non-empty while a slot stands free. -/
  full : n.eq.waiting ≠ [] → ∀ i : Fin 8, n.eq.slots[i] ≠ none
  /-- R77: a queued set and a target set differ from the current set, a pending set from the target set. -/
  queuedDiffers : ∀ (k : Fin 24) q, n.eq.records[k].phase = .waiting q → q ≠ n.eq.records[k].current
  targetDiffers : ∀ (k : Fin 24) t p, n.eq.records[k].phase = .fading t p →
    t ≠ n.eq.records[k].current ∧ p ≠ some t
  /-- R89: a disabled speaker stays IDLE. -/
  disabled : ∀ k : Fin 24, n.tables.speakers[k].enabled = false → n.eq.records[k].phase = .idle
  /-- R91, R92: no crossfade stands outside QUIET, ACTIVE and the DETACHED that may follow them. -/
  settled : (n.control.node ≠ .detached ∧ audioRuns n.control.node = false) ∨ n.link.address = none →
    ∀ k : Fin 24, n.eq.records[k].phase = .idle
  unlatched : n.link.address = none → n.control.node = .detached

/-- R167: the pass-through store never holds more than 132 entries, with what the proof of that law rests on: at most
one entry arrives for each byte sent of an own reply, and every reply has at most 132 bytes. -/
structure StoreFits (n : Node) : Prop where
  store : n.merger.store.length ≤ 132
  sending : ∀ pos, n.merger.output = .sendingReply pos → pos ≤ 131 ∧ n.merger.store.length ≤ pos
  aborting : n.merger.output = .aborting → n.merger.store.length ≤ 131
  input : ∀ c, n.merger.input = .inMessage c → 1 ≤ c ∧ c ≤ 131
  replies : ∀ m ∈ n.replies, m.payload.length ≤ 127

/-- A safe state: one that has every law of this file. -/
structure Safe (s : State) : Prop where
  queues : QueuesFit s.node
  slots : SlotsDistinct s.node
  codes : CodesFit s.node
  link : LinkFits s.node
  crossfades : CrossfadesFit s.node
  store : StoreFits s.node

/-- A command brings a defined command code: a downstream frame with the code's number, or the row of the code itself
(R122, R132). -/
def bringsCode (i : Instr) (c : Code) : Prop :=
  (∃ f : DownFrame, i = .downstreamFrame f ∧ f.code = codeNumber c) ∨
  (i = .run ∧ c = .run) ∨ (i = .quiet ∧ c = .quiet) ∨ (i = .halt ∧ c = .halt) ∨
  ∃ hop, i = .clear hop ∧ c = .clear

/-- The command that a message of a kind is: the 13 message rows. -/
def messageCommand (k : Kind) (h : MsgHeader) (payload : List Byte) : Instr :=
  match k with
  | .tableWrite => .tableWrite h payload
  | .tableRead => .tableRead h payload
  | .eqSelect => .eqSelect h payload
  | .identRead => .identRead h payload
  | .level => .level h payload
  | .programTrim => .programTrim h payload
  | .balanceFade => .balanceFade h payload
  | .mute => .mute h payload
  | .speed => .speed h payload
  | .cabin => .cabin h payload
  | .presence => .presence h payload
  | .rampControl => .rampControl h payload
  | .statusRead => .statusRead h payload

/-- R166: what a cell, or a period with no cell taken as IDLE, does at the upstream merger's input: the entries stored
and the input state after it. The manual's table, row by row. -/
def mergerInput (i : MergerIn) (c : Cell) : List StoreEntry × MergerIn :=
  match i, c.marker with
  | .ready, .idle => ([], .ready)
  | .ready, .data => ([.data c.byte], .inMessage 1)
  | .ready, .fin => ([.fin c.byte], .ready)
  | .ready, .abort => ([], .ready)
  | .inMessage _, .idle => ([.abort], .ready)
  | .inMessage k, .data => if k < 131 then ([.data c.byte], .inMessage (k + 1)) else ([.abort], .skipping)
  | .inMessage _, .fin => ([.fin c.byte], .ready)
  | .inMessage _, .abort => ([.abort], .ready)
  | .skipping, .idle => ([], .ready)
  | .skipping, .data => ([], .skipping)
  | .skipping, .fin => ([], .ready)
  | .skipping, .abort => ([], .ready)

/-- A message of a kind, addressed to this node or to every node, arrives whole at a standing boundary at which the
executor may take its lane and finds the lane's queue empty (R153, R155; log entry 5). -/
def arrivesAtBoundary (k : Kind) (h : MsgHeader) (n : Node) : Prop :=
  laneDue (kindLane k) n = true ∧ (laneOf (kindLane k) n).queue = [] ∧
    (h.dest = addressNibble n ∨ h.dest = 0xF)

/-- The node with a lane's take of this boundary over, and with the setting lane's the live lane's before it (R155). -/
def lanesTaken (l : LaneId) (n : Node) : Node :=
  match l with
  | .live => { n with boundary := n.boundary.erase .liveTake }
  | .setting => { n with boundary := (n.boundary.erase .liveTake).erase .settingTake }

/-- The reply of the node to a request (R165): destination 0xE, origin the latched address, the request's kind plus
0x80 and its tag. -/
def replyTo (k : Kind) (h : MsgHeader) (payload : List Byte) (n : Node) : Message :=
  { dest := 0xE, origin := addressNibble n, kind := kindCode k + 0x80, tag := h.tag, payload := payload }

/-! ### The manual's bytes, in which the statements spell payloads (R170, R172, R173) -/

/-- R170: a flag. -/
def flagCode (on : Bool) : Byte := if on then 1 else 0

/-- R170: an index in one byte. -/
def indexCode {k : Nat} (i : Fin k) : Byte := BitVec.ofNat 8 i.val

/-- R170: an optional index, 0xFF for none. -/
def optCode {k : Nat} : Option (Fin k) → Byte
  | some i => indexCode i
  | none => 0xFF

/-- R170: a set reference, 0xFF for FLAT. -/
def setCode : SetRef → Byte
  | .set e => indexCode e
  | .flat => 0xFF

/-- R170, R172: a set reference in a reply, 0xFE for absent. -/
def viewCode : Option SetRef → Byte
  | some s => setCode s
  | none => 0xFE

/-- R173: a speaker's side. -/
def sideCode : Side → Byte
  | .left => 0
  | .right => 1
  | .centre => 2

/-- R173: a speaker's end. -/
def endCode : CabinEnd → Byte
  | .front => 0
  | .rear => 1
  | .mid => 2

/-- R171, R172: a ramp unit's mode. -/
def modeCode : RampMode → Byte
  | .hold => 0
  | .step => 1
  | .run => 2
  | .once => 3

/-- R170: two bytes, the most significant first. -/
def word16 (x : BitVec 16) : List Byte := [x.extractLsb' 8 8, x.extractLsb' 0 8]

/-- R170: three bytes, the most significant first. -/
def word24 (x : BitVec 24) : List Byte := [x.extractLsb' 16 8, x.extractLsb' 8 8, x.extractLsb' 0 8]

/-- R170: a list, its count byte and its entries. -/
def counted (entries : List (List Byte)) : List Byte := BitVec.ofNat 8 entries.length :: entries.flatten

/-- R174: of an element's field groups, in mask-bit order, the bytes of those that a field mask selects. -/
def selected (mask : Nat) (groups : List (List Byte)) : List Byte :=
  (groups.zipIdx.filter fun g => mask.testBit g.2).flatMap (·.1)

/-- R173, R174: bytes are a field group of a shape: so many bytes, or a count byte and so many entries. -/
def shapeFits : GroupShape → List Byte → Prop
  | .fixed bytes, g => g.length = bytes
  | .list size, g => ∃ count entries, g = count :: entries ∧ entries.length = count.toNat * size

/-- R158: the TABLE_WRITE of one element, of a table, at an index, under the field mask of two bytes. -/
def writeOne (h : MsgHeader) (id i hi lo : Byte) (groups : List (List Byte)) : Instr :=
  .tableWrite h ([id, i, 1, hi, lo] ++ selected (256 * hi.toNat + lo.toNat) groups)

/-- The node after a setting message that writes nothing and sets WRITE_REFUSED. -/
def writeRefused (n : Node) : Node := { lanesTaken .setting n with events := n.events ||| 0x20#13 }

/-- R158: a command that writes one element answers the written node where its bytes, merged into the element as it
stands, read as a record, and refuses the element where they read as none. -/
def writesOrRefuses {α : Type} (n : Node) (q : List Instr) (c : Instr) (reads : α → Prop) (written : α → Node) : Prop :=
  (∀ r, reads r → exec c ⟨n, q⟩ = .next ⟨written r, q⟩) ∧
  ((∀ r, ¬reads r) → exec c ⟨n, q⟩ = .next ⟨writeRefused n, q⟩)

end Sys2Proof.Machine
end

