-- ==== Sys2Proof/Certificates/Slice0/Obligations.lean ====
section
/-! DEFINITION. The statements for the provers, one for each rule or law of the manual that says what a command or the
machine does. `⟨n, q⟩` is the state of node `n` with the commands `q` waiting. -/

section

open Sys2Proof Sys2Proof.Machine

/-! ### The machine -/

/-- A step runs the command at the front of the queue on the node, with the rest of the queue, and every command
answers a next state that leaves the waiting commands alone: no command stops this block. On an empty queue the block
idles (the model's choice, log entry 17). -/
def Obligations.StepRunsTheFrontCommand : Prop :=
  (∀ (n : Node) (c : Instr) (q : List Instr), step ⟨n, c :: q⟩ = exec c ⟨n, q⟩ ∧
    ∃ m : Node, exec c ⟨n, q⟩ = .next ⟨m, q⟩) ∧
  ∀ n : Node, step ⟨n, []⟩ = .next ⟨n, []⟩

/-! ### Reset -/

/-- R138: the assertion of the reset input takes every piece of state to its reset value at once, every command but
the release leaves the node there, and the release leaves it in DETACHED with its head-side receiver hunting. The
model's own counter `choice` alone is kept (log entry 16). -/
def Obligations.ResetInputHoldsTheNode : Prop :=
  ∀ (n : Node) (q : List Instr),
    exec .resetAssert ⟨n, q⟩ = .next ⟨{ control := { resetIn := true }, choice := n.choice }, q⟩ ∧
    (∀ c : Instr, c ≠ .resetRelease →
      exec c ⟨{ control := { resetIn := true }, choice := n.choice }, q⟩ =
        .next ⟨{ control := { resetIn := true }, choice := n.choice }, q⟩) ∧
    exec .resetRelease ⟨{ control := { resetIn := true }, choice := n.choice }, q⟩ =
      .next ⟨{ choice := n.choice }, q⟩

/-- The reset values that the manual states, at `State.reset`: node state, link port, tables, live state, detectors,
levels, tracker, equaliser, ramp units, guards, lanes, merger, flags. -/
def Obligations.ResetValues : Prop :=
  State.reset.pending = [] ∧
  State.reset.node.control = { resetIn := false, node := .detached, returnState := none, clearCount := 0 } ∧
  State.reset.node.link.head = .hunting 0 ∧ State.reset.node.link.amp = .hunting 0 ∧
  State.reset.node.link.address = none ∧ State.reset.node.link.mismatch = 0 ∧
  State.reset.node.link.accepted = .halt ∧ State.reset.node.link.candidate = none ∧
  State.reset.node.link.ampTx = none ∧ State.reset.node.link.headTx = none ∧
  (∀ i : Fin 12, State.reset.node.tables.sources[i] = { enabled := false, slot := 0, program := 0 }) ∧
  (∀ k : Fin 24, State.reset.node.tables.speakers[k] =
    { enabled := false, slot := 0, zone := 0, side := .left, along := .front, trim := 0, ramp := none, alpha := 0,
      bandLinked := false, bandSets := #v[.flat, .flat, .flat, .flat], taps := [] }) ∧
  (∀ z : Fin 4, State.reset.node.tables.zones[z] =
    { ceiling := 0, downSlew := 8, upSlew := 2, speakerSlew := 4, curve := z, guardOn := false, attack := 4,
      floor := -96, hold := 750, recover := 15 }) ∧
  (∀ i : Fin 16, State.reset.node.tables.pairs[i] = { follow := true, ramp := none }) ∧
  (∀ i : Fin 64, State.reset.node.tables.duck[i] = 0) ∧
  (∀ p : Fin 4, State.reset.node.tables.presence[p] = { threshold := 65536, hold := 150 }) ∧
  (∀ i : Fin 64, State.reset.node.tables.volume[i] = if i = 0 then -960 else 8 * ((i.val : Int) - 63)) ∧
  (∀ i : Fin 33, State.reset.node.tables.balance[i] = if i = 32 then -960 else -3 * (i.val : Int)) ∧
  State.reset.node.tables.settings =
    { weight := 4, staleTime := 750, failTime := 3000, attack := 2, release := 30, hysteresis := 6, theta1 := 160,
      theta2 := 320, theta3 := 480, bandHysteresis := 20 } ∧
  (∀ i : Fin 4, State.reset.node.tables.curves[i] = { points := [], offsets := #v[0, 0, 0, 0] }) ∧
  (∀ i : Fin 48, State.reset.node.tables.eqSets[i] = []) ∧
  State.reset.node.tables.nodeEntry = { crossfadeLength := 64, attentionMask := 0x1FFF } ∧
  (∀ u : Fin 6, State.reset.node.tables.ramps[u] = { segments := [], loopStart := none, loopCount := 0 }) ∧
  (∀ z : Fin 4, State.reset.node.live.zones[z] =
    { volumeIndex := 0, volumeCode := -960, balance := 0, fade := 0, mute := false, trims := #v[0, 0, 0, 0] }) ∧
  (∀ k : Fin 24, State.reset.node.live.mutes[k] = false) ∧
  (∀ p : Fin 4, State.reset.node.detectors[p] = { mode := .off, present := false, quiet := 0, peak := 0 }) ∧
  (∀ i : Fin 16, State.reset.node.levels.pairs[i] = { applied := -960, effective := -960, linear := 0 }) ∧
  (∀ k : Fin 24, State.reset.node.levels.speakers[k] = { applied := -960, effective := -960, linear := 0 }) ∧
  (∀ k : Fin 24, State.reset.node.levels.clips[k] = { count := 0, running := false, last := false }) ∧
  State.reset.node.tracker.state = .none ∧ State.reset.node.tracker.speed = 0 ∧
  State.reset.node.tracker.band = 0 ∧ State.reset.node.tracker.cabin = 0 ∧
  (∀ z : Fin 4, State.reset.node.tracker.zones[z] =
    { target := 0, smoothed := 0, release := 0, bassTarget := 0, bass := 0 }) ∧
  (∀ k : Fin 24, State.reset.node.eq.records[k].phase = .idle ∧
    State.reset.node.eq.records[k].current = .flat ∧ State.reset.node.eq.records[k].lp = 0) ∧
  (∀ i : Fin 8, State.reset.node.eq.slots[i] = none) ∧ State.reset.node.eq.waiting = [] ∧
  (∀ u : Fin 6, State.reset.node.ramps[u] =
    { mode := .hold, index := 0, segment := none, loops := .count 0, output := 0, done := false }) ∧
  (∀ z : Fin 4, State.reset.node.guards[z] = { code := 0, hold := 0, recover := 0 }) ∧
  State.reset.node.settingLane = { assembly := .skipping, queue := [] } ∧
  State.reset.node.liveLane = { assembly := .skipping, queue := [] } ∧
  State.reset.node.replies = [] ∧
  State.reset.node.merger = { store := [], input := .skipping, output := .between } ∧
  State.reset.node.events = 0

/-! ### Lock on the head side -/

/-- R124: while HUNTING, a sync at the expected position adds 1 to the run count up to 7, any sync starts a run from
0, a sync elsewhere is ignored inside a run, and an expected position without a sync ends the run. -/
def Obligations.HeadHuntCountsSyncs : Prop :=
  ∀ (n : Node) (q : List Instr) (run : Nat) (hop : BitVec 3), n.control.resetIn = false →
    n.link.head = .hunting run → run < 8 →
    exec (.headHuntSync .absent hop) ⟨n, q⟩ = .next ⟨{ n with link := { n.link with head := .hunting 0 } }, q⟩ ∧
    (run = 0 → exec (.headHuntSync .elsewhere hop) ⟨n, q⟩ =
      .next ⟨{ n with link := { n.link with head := .hunting 1 } }, q⟩) ∧
    (1 ≤ run → exec (.headHuntSync .elsewhere hop) ⟨n, q⟩ = .next ⟨n, q⟩) ∧
    (run < 7 → exec (.headHuntSync .atExpected hop) ⟨n, q⟩ =
      .next ⟨{ n with link := { n.link with head := .hunting (run + 1) } }, q⟩)

/-- R124, R139: the eighth sync of a run with the address unlatched locks the head side for the first time: the
address is latched from the lock frame's hop count, and the node enters STARTING for 0 to 3 and PASSIVE for 4 to 7. -/
def Obligations.FirstLockLatchesTheAddress : Prop :=
  ∀ (n : Node) (q : List Instr) (hop : BitVec 3) (c : Instr), c = .firstLock hop ∨ c = .headHuntSync .atExpected hop →
    n.control.resetIn = false → n.link.head = .hunting 7 → n.link.address = none →
    exec c ⟨n, q⟩ = .next ⟨{ n with
      control := { n.control with
        node := if hop.toNat < 4 then .starting else .passive, returnState := none, clearCount := 0 }
      link := { n.link with
        head := .locked 0, address := some hop, mismatch := 0, candidate := none, frameInBlock := 0, block := 0,
        lastHop := if hop = 7 then 7 else hop + 1 } }, q⟩

/-- R149: the eighth sync of a run with the address latched is a relock: RELOCK is set for an address of 0 to 3, every
block takes its relock action, and the state follows the return state and, for a working state, the accepted code.
Each speaker settles on its last desired set (R91): the pending set or else the target of a crossfade, the queued set
of a waiting speaker, the current set of an idle one. -/
def Obligations.RelockRestartsEveryBlock : Prop :=
  ∀ (n : Node) (q : List Instr) (hop a : BitVec 3) (r : NodeState) (c : Instr),
    c = .relock hop ∨ c = .headHuntSync .atExpected hop →
    n.control.resetIn = false → n.link.head = .hunting 7 → n.link.address = some a →
    n.control.returnState = some r → r ≠ .detached →
    exec c ⟨n, q⟩ = .next ⟨{ n with
      control := { n.control with
        node :=
          if r = .starting ∨ r = .fault ∨ r = .passive then r
          else if n.link.accepted = .run then .active
          else if n.link.accepted = .quiet then .quiet
          else .halted
        returnState := none, clearCount := 0 }
      link := { n.link with
        head := .locked 0, mismatch := 0, candidate := none, frameInBlock := 0, block := 0,
        lastHop := if hop = 7 then 7 else hop + 1 }
      detectors := .ofFn fun p =>
        { n.detectors[p] with present := n.detectors[p].mode == .on, quiet := 0, peak := 0 }
      levels :=
        { pairs := .replicate 16 {}, speakers := .replicate 24 {}
          clips := .ofFn fun k => { count := n.levels.clips[k].count, running := false, last := false } }
      tracker := { n.tracker with state := .none, stale := 0, fail := 0, zones := .replicate 4 {} }
      eq := { n.eq with
        records := .ofFn (fun k => {
          current := match n.eq.records[k].phase with
            | .idle => n.eq.records[k].current
            | .waiting queued => queued
            | .fading target none => target
            | .fading _ (some pending) => pending })
        slots := .replicate 8 none, waiting := [] }
      ramps := .ofFn fun u => { n.ramps[u] with mode := .hold }
      guards := .replicate 4 {}
      boundary := []
      events := if a.toNat < 4 then n.events ||| 0x1000#13 else n.events }, q⟩

/-- R125, R126, R148: the fourth missed frame in a row loses head-side lock: the node enters DETACHED, remembers its
state, sends nothing on either port, drops the frames formed and every partial message, and its amp side hunts
afresh. It is the end of whatever stands of the boundary before it (log entry 31). -/
def Obligations.HeadLossDetaches : Prop :=
  ∀ (n : Node) (q : List Instr) (c : Instr), c = .headLossOfLock ∨ c = .missedFrame → n.link.head = .locked 3 →
    ∃ m : Node, exec .blockBoundary ⟨n, q⟩ = .next ⟨m, q⟩ ∧
      exec c ⟨n, q⟩ = .next ⟨{ m with
        control := { m.control with node := .detached, returnState := some m.control.node }
        link := { m.link with
          head := .hunting 0, amp := .hunting 0, candidate := none, mismatch := 0, formed1 := none, formed2 := none,
          ampTx := none, headTx := none, upNow := none, upPrev := none }
        settingLane := { assembly := .skipping, queue := m.settingLane.queue }
        liveLane := { assembly := .skipping, queue := m.liveLane.queue }
        merger := { store := [], input := .skipping, output := .between } }, q⟩

/-! ### Frames -/

/-- R122, R125, R128, R129, R136, R169: a received frame is forwarded two frame periods later with its hop count raised
by 1 up to 7, its code, its cells and its unclaimed slots as received. A claimed slot carries 0 outside QUIET and
ACTIVE; a PASSIVE node claims none and forwards the fill as it stands, which any other node sends as zero (log entry
8). The hop count sent is held for a missed frame that may follow (log entry 25). -/
def Obligations.ReceivedFrameIsForwarded : Prop :=
  ∀ (n : Node) (q : List Instr) (k : Nat) (f : DownFrame), n.link.head = .locked k →
    ∃ (m : Node) (g : DownFrame), exec (.downstreamFrame f) ⟨n, q⟩ = .next ⟨m, q⟩ ∧
      m.link.head = .locked 0 ∧
      m.link.ampTx = n.link.formed2 ∧ m.link.formed2 = n.link.formed1 ∧ m.link.formed1 = some g ∧
      g.hop = (if f.hop = 7 then 7 else f.hop + 1) ∧ m.link.lastHop = g.hop ∧
      g.fill = (if m.control.node = .passive then f.fill else 0) ∧
      g.code = f.code ∧ g.setting = f.setting ∧ g.live = f.live ∧
      ∀ i : Fin 32,
        (m.control.node = .passive ∨
          (∀ j : Fin 24, m.tables.speakers[j].enabled = true → m.tables.speakers[j].slot ≠ i) →
          g.slots[i] = f.slots[i]) ∧
        (m.control.node ≠ .passive → m.control.node ≠ .quiet → m.control.node ≠ .active →
          (∃ j : Fin 24, m.tables.speakers[j].enabled = true ∧ m.tables.speakers[j].slot = i) → g.slots[i] = 0)

/-- R125, R128, R132, R131: a missed frame short of the fourth in a row is processed in place of the lost one: command
code 0, IDLE cells, every unclaimed slot 0, fill 0, the hop count of the frame formed before it, which stays the one
held (the frame last formed since lock stands for the manual's frame last sent, log entry 25), no candidate and no
mismatch counted. A claimed slot carries 0 outside QUIET and ACTIVE, in which it carries the response to silence
(SpeakerPlaysItsPremix). In service both lanes take an IDLE cell, which discards a message in assembly with MALFORMED,
and no block peak rises; outside service nothing takes anything. The node state and the tables stand. -/
def Obligations.MissedFrameIsSubstituted : Prop :=
  ∀ (n b : Node) (q : List Instr) (k : Nat), n.link.head = .locked k → k < 3 →
    b = completeBoundary { n with link := { n.link with head := .locked (k + 1) } } →
    ∃ (m : Node) (g : DownFrame), exec .missedFrame ⟨n, q⟩ = .next ⟨m, q⟩ ∧
      m.link.head = .locked (k + 1) ∧ m.link.address = n.link.address ∧ m.link.accepted = n.link.accepted ∧
      m.link.mismatch = 0 ∧ (m.control.node ≠ .detached → m.link.candidate = none) ∧
      m.link.ampTx = n.link.formed2 ∧ m.link.formed2 = n.link.formed1 ∧ m.link.formed1 = some g ∧
      g.hop = n.link.lastHop ∧ m.link.lastHop = g.hop ∧ g.fill = 0 ∧ g.code = 0 ∧
      g.setting = ⟨.idle, 0⟩ ∧ g.live = ⟨.idle, 0⟩ ∧
      m.control = b.control ∧ m.tables = b.tables ∧
      (∀ i : Fin 32, (∀ j : Fin 24, m.tables.speakers[j].enabled = true → m.tables.speakers[j].slot ≠ i) ∨
          m.control.node ≠ .quiet ∧ m.control.node ≠ .active →
        g.slots[i] = 0) ∧
      (inService b.control.node = false → m.settingLane = b.settingLane ∧ m.liveLane = b.liveLane ∧
        m.events = b.events ∧ m.detectors = b.detectors) ∧
      (inService b.control.node = true →
        m.settingLane = { b.settingLane with assembly := .ready } ∧
        m.liveLane = { b.liveLane with assembly := .ready } ∧
        (∀ bytes : List Byte, b.settingLane.assembly = .assembling bytes ∨ b.liveLane.assembly = .assembling bytes →
          m.events = b.events ||| 0x4#13) ∧
        ((∀ bytes : List Byte, b.settingLane.assembly ≠ .assembling bytes ∧ b.liveLane.assembly ≠ .assembling bytes) →
          m.events = b.events) ∧
        ∀ p : Fin 4, m.detectors[p] = { b.detectors[p] with
          peak := if b.link.frameInBlock = 0 then 0 else b.detectors[p].peak })

/-- R124, R43, R136: frame periods are counted in blocks of 32. The 32nd opens a block boundary with every work to be
taken, where the node has block boundaries, and hands every speaker's running clip mark on as its last-block mark: the
marks are those that the same frame leaves inside a block, none standing before it. No other frame leaves a boundary
standing. -/
def Obligations.EveryThirtySecondFrameOpensABoundary : Prop :=
  ∀ (n : Node) (q : List Instr) (k : Nat) (c : Instr), n.link.head = .locked k →
    (c = .missedFrame ∧ k < 3 ∨ ∃ f, c = .downstreamFrame f) →
    ∃ m : Node, exec c ⟨n, q⟩ = .next ⟨m, q⟩ ∧
      (n.link.frameInBlock < 31 → m.link.frameInBlock = n.link.frameInBlock + 1 ∧ m.link.block = n.link.block ∧
        m.boundary = []) ∧
      (n.link.frameInBlock = 31 → m.link.frameInBlock = 0 ∧ m.link.block = n.link.block + 1 ∧
        m.boundary = (if m.control.node = .detached ∨ m.control.node = .passive then [] else allWorks) ∧
        ∀ x : Node, exec c ⟨{ n with link := { n.link with frameInBlock := 30 } }, q⟩ = .next ⟨x, q⟩ →
          n.boundary = [] → m.control.node ≠ .detached → m.control.node ≠ .passive → ∀ j : Fin 24,
          m.levels.clips[j] = { x.levels.clips[j] with running := false, last := x.levels.clips[j].running })

/-! ### The upstream frame, the merger and the amp side -/

/-- R134, R135, R136: the upstream frame of a frame period. It is sent before the frame's own content acts, after the
boundary before it. Every status position is that received two periods earlier, or ABSENT, and a node in service
writes at its own position its state, the attention bit and the free counts and sends the fill as zero; a PASSIVE node
forwards the cell, every position and the fill as received (log entry 8). The frame of the period before moves on, so
that each frame received is the one received two periods earlier when it is used (log entry 9). -/
def Obligations.UpstreamFrameReportsTheNode : Prop :=
  ∀ (n b : Node) (q : List Instr) (k h : Nat) (c : Instr), n.link.head = .locked k →
    (c = .missedFrame ∧ k < 3 ∧ h = k + 1 ∨ (∃ f, c = .downstreamFrame f) ∧ h = 0) →
    b = completeBoundary { n with link := { n.link with head := .locked h } } →
    ∃ (m : Node) (u : UpFrame), exec c ⟨n, q⟩ = .next ⟨m, q⟩ ∧ m.link.headTx = some u ∧
      m.link.upPrev = n.link.upNow ∧ m.link.upNow = none ∧
      (∀ p : Fin 4, (b.control.node = .passive ∨ ∀ a, b.link.address = some a → a.toNat ≠ p.val) →
        u.status[p] = match b.link.amp, b.link.upPrev with
          | .locked _, some v => v.status[p]
          | _, _ => 0xE00#12) ∧
      (∀ (p : Fin 4) (a : BitVec 3), b.link.address = some a → a.toNat = p.val →
        b.control.node ≠ .passive → b.control.node ≠ .detached →
        u.status[p].extractLsb' 9 3 =
          (if b.control.node = .starting then 0#3 else if b.control.node = .halted then 1#3
           else if b.control.node = .quiet then 2#3 else if b.control.node = .active then 3#3 else 4#3) ∧
        (u.status[p].getLsbD 8 = true ↔
          ∃ e : Fin 13, b.events.getLsbD e.val = true ∧ b.tables.nodeEntry.attentionMask.getLsbD e.val = true) ∧
        (u.status[p].extractLsb' 5 3).toNat = 4 - b.settingLane.queue.length ∧
        (u.status[p].extractLsb' 1 4).toNat = 8 - b.liveLane.queue.length ∧
        u.status[p].getLsbD 0 = false) ∧
      (b.control.node ≠ .passive → u.fill = 0) ∧
      (b.control.node = .passive →
        u.reply = (match b.link.amp, b.link.upPrev with
          | .locked _, some v => v.reply
          | _, _ => ⟨.idle, 0⟩) ∧
        u.fill = match b.link.amp, b.link.upPrev with
          | .locked _, some v => v.fill
          | _, _ => 0)

/-- R166, R167: while an own reply is sent, each frame period sends its next byte, DATA, or END for its last byte, with
which the reply leaves the queue. What arrives meanwhile, the cell received two periods earlier (log entry 9), acts by
the table of R166 (`mergerInput`) and accumulates behind the store. The frame carries no CLEAR. -/
def Obligations.ReplyIsSentByteByByte : Prop :=
  ∀ (n b : Node) (q : List Instr) (c : Instr) (k h pos : Nat) (r : Message) (rest : List Message)
    (x : List StoreEntry) (i : MergerIn), n.link.head = .locked k →
    (c = .missedFrame ∧ k < 3 ∧ h = k + 1 ∨ (∃ f : DownFrame, c = .downstreamFrame f ∧ f.code ≠ 4) ∧ h = 0) →
    b = completeBoundary { n with link := { n.link with head := .locked h } } →
    inService b.control.node = true → b.merger.output = .sendingReply pos → b.replies = r :: rest →
    pos < (messageBytes r).length →
    (x, i) = mergerInput b.merger.input (match b.link.amp, b.link.upPrev with
      | .locked _, some v => v.reply
      | _, _ => ⟨.idle, 0⟩) →
    ∃ (m : Node) (u : UpFrame), exec c ⟨n, q⟩ = .next ⟨m, q⟩ ∧ m.link.headTx = some u ∧
      u.reply = ⟨if pos + 1 = (messageBytes r).length then .fin else .data, (messageBytes r).getD pos 0⟩ ∧
      m.merger =
        { store := b.merger.store ++ x, input := i
          output := if pos + 1 = (messageBytes r).length then .between else .sendingReply (pos + 1) } ∧
      m.replies = (if pos + 1 = (messageBytes r).length then rest else r :: rest)

/-- R166 to R168: what a frame period sends upstream outside an own reply. What arrives, the cell received two periods
earlier (log entry 9), acts by the table of R166 (`mergerInput`). The oldest entry, one that arrives in the same period
included, leaves the store, before an own reply, and a message begun stays in progress until its END or ABORT. Between
messages with an empty store a waiting reply sends its first byte, and IDLE is sent where none waits. An ABORT that is
owed is sent, and the output is between messages after it. The frame carries no CLEAR. -/
def Obligations.PassThroughGoesFirst : Prop :=
  ∀ (n b : Node) (q : List Instr) (c : Instr) (k h : Nat) (x : List StoreEntry) (i : MergerIn),
    n.link.head = .locked k →
    (c = .missedFrame ∧ k < 3 ∧ h = k + 1 ∨ (∃ f : DownFrame, c = .downstreamFrame f ∧ f.code ≠ 4) ∧ h = 0) →
    b = completeBoundary { n with link := { n.link with head := .locked h } } → inService b.control.node = true →
    (x, i) = mergerInput b.merger.input (match b.link.amp, b.link.upPrev with
      | .locked _, some v => v.reply
      | _, _ => ⟨.idle, 0⟩) →
    ∃ (m : Node) (u : UpFrame), exec c ⟨n, q⟩ = .next ⟨m, q⟩ ∧ m.link.headTx = some u ∧
      (b.merger.output = .between ∨ b.merger.output = .sendingPass →
        ∀ (e : StoreEntry) (rest : List StoreEntry), b.merger.store ++ x = e :: rest →
        u.reply = (match e with
          | .data y => ⟨.data, y⟩
          | .fin y => ⟨.fin, y⟩
          | .abort => ⟨.abort, 0⟩) ∧
        m.merger =
          { store := rest, input := i
            output := match e with
              | .data _ => .sendingPass
              | .fin _ => .between
              | .abort => .between } ∧
        m.replies = b.replies) ∧
      (b.merger.output = .between → b.merger.store ++ x = [] →
        (b.replies = [] → u.reply = ⟨.idle, 0⟩ ∧ m.merger = { store := [], input := i, output := .between } ∧
          m.replies = []) ∧
        (∀ (r : Message) (rest : List Message), b.replies = r :: rest →
          u.reply = ⟨.data, r.dest ++ r.origin⟩ ∧
          m.merger = { store := [], input := i, output := .sendingReply 1 } ∧ m.replies = r :: rest)) ∧
      (b.merger.output = .aborting → u.reply = ⟨.abort, 0⟩ ∧
        m.merger = { store := b.merger.store ++ x, input := i, output := .between } ∧ m.replies = b.replies)

/-- R167: an own reply starts when the output is between messages, the store is empty, a reply waits and no message is
in progress on the input once the cell of the coming period is taken; otherwise nothing changes, and outside service
nothing does. The start comes after the boundary before the period (log entry 15). -/
def Obligations.ReplyStartsBetweenMessages : Prop :=
  ∀ (n b : Node) (q : List Instr), b = completeBoundary n →
    (inService b.control.node = true → b.merger.output = .between → b.merger.store = [] → b.replies ≠ [] →
      b.merger.input = .skipping ∨ (b.merger.input = .ready ∧
        ∀ (j : Nat) (v : UpFrame), b.link.amp = .locked j → b.link.upPrev = some v →
          v.reply.marker = .idle ∨ v.reply.marker = .abort) →
      exec .replyStart ⟨n, q⟩ = .next ⟨{ b with merger := { b.merger with output := .sendingReply 0 } }, q⟩) ∧
    (inService b.control.node = false ∨ b.merger.output ≠ .between ∨ b.merger.store ≠ [] ∨ b.replies = [] ∨
        (∃ count, b.merger.input = .inMessage count) ∨ (b.merger.input = .ready ∧
          ∃ (j : Nat) (v : UpFrame), b.link.amp = .locked j ∧ b.link.upPrev = some v ∧
            (v.reply.marker = .data ∨ v.reply.marker = .fin)) →
      exec .replyStart ⟨n, q⟩ = .next ⟨b, q⟩)

/-- R127, R168: while the head side is LOCKED the amp side hunts like it, and the eighth sync of a run locks it; the
lock frame is not forwarded and the merger's input skips. While LOCKED it takes an upstream frame and counts a missed
one; the fourth missed frame in a row loses the lock, discards the store and the cells on their way, and owes an ABORT
for a message in progress on the output. No event flag and no node state changes. While the head side hunts an amp-side
hunt does nothing (log entry 28). -/
def Obligations.AmpSideHuntsLocksAndLoses : Prop :=
  (∀ (n : Node) (q : List Instr) (run : Nat), n.link.amp = .hunting run → run < 8 →
     ((∃ k, n.link.head = .locked k) →
       exec (.ampHuntSync .absent) ⟨n, q⟩ = .next ⟨{ n with link := { n.link with amp := .hunting 0 } }, q⟩ ∧
       (run = 0 → exec (.ampHuntSync .elsewhere) ⟨n, q⟩ =
         .next ⟨{ n with link := { n.link with amp := .hunting 1 } }, q⟩) ∧
       (1 ≤ run → exec (.ampHuntSync .elsewhere) ⟨n, q⟩ = .next ⟨n, q⟩) ∧
       (run < 7 → exec (.ampHuntSync .atExpected) ⟨n, q⟩ =
         .next ⟨{ n with link := { n.link with amp := .hunting (run + 1) } }, q⟩) ∧
       (run = 7 → ∀ c : Instr, c = .ampLock ∨ c = .ampHuntSync .atExpected →
         exec c ⟨n, q⟩ = .next ⟨{ n with
           link := { n.link with amp := .locked 0, upNow := none }
           merger := { n.merger with input := .skipping } }, q⟩)) ∧
     ((∃ r, n.link.head = .hunting r) → ∀ c : Instr, c = .ampLock ∨ (∃ seen, c = .ampHuntSync seen) →
       exec c ⟨n, q⟩ = .next ⟨n, q⟩)) ∧
  (∀ (n : Node) (q : List Instr) (miss : Nat) (f : UpFrame), n.link.amp = .locked miss →
     exec (.upstreamFrameReceive f) ⟨n, q⟩ =
       .next ⟨{ n with link := { n.link with amp := .locked 0, upNow := some f } }, q⟩ ∧
     (miss < 3 → exec .ampMissedFrame ⟨n, q⟩ =
       .next ⟨{ n with link := { n.link with amp := .locked (miss + 1), upNow := none } }, q⟩) ∧
     (miss = 3 → ∀ c : Instr, c = .ampMissedFrame ∨ c = .ampLossOfLock →
       exec c ⟨n, q⟩ = .next ⟨{ n with
         link := { n.link with amp := .hunting 0, upNow := none, upPrev := none }
         merger :=
           { store := [], input := .skipping
             output := if n.merger.output = .sendingPass then .aborting else n.merger.output } }, q⟩))

/-! ### Command codes, CLEAR and the hop count -/

/-- R132, R142: RUN, QUIET and HALT each take one frame's code, after the boundary before it (the model's reading of the
rows, log entry 13). A code that is not the candidate becomes the candidate; the candidate that is not the accepted
code becomes it and moves HALTED, QUIET and ACTIVE alone; entry to HALTED silences every level and settles every
speaker on its last desired set in that frame (R41, R43, R91): the pending set or else the target of a crossfade, the
queued set of a waiting speaker, the current set of an idle one. -/
def Obligations.CodesMoveTheWorkingStates : Prop :=
  ∀ (n b : Node) (q : List Instr) (i : Instr) (c : Code) (s : NodeState),
    (i = .run ∧ c = .run ∧ s = .active) ∨ (i = .quiet ∧ c = .quiet ∧ s = .quiet) ∨
      (i = .halt ∧ c = .halt ∧ s = .halted) →
    b = completeBoundary n → b.control.node ≠ .detached →
    (b.link.candidate ≠ some c →
      exec i ⟨n, q⟩ = .next ⟨{ b with link := { b.link with candidate := some c } }, q⟩) ∧
    (b.link.candidate = some c → b.link.accepted = c → exec i ⟨n, q⟩ = .next ⟨b, q⟩) ∧
    (b.link.candidate = some c → b.link.accepted ≠ c →
      (b.control.node = .starting ∨ b.control.node = .fault ∨ b.control.node = .passive →
        exec i ⟨n, q⟩ = .next ⟨{ b with link := { b.link with accepted := c, candidate := some c } }, q⟩) ∧
      (b.control.node = .halted ∨ b.control.node = .quiet ∨ b.control.node = .active →
        (s ≠ .halted → exec i ⟨n, q⟩ = .next ⟨{ b with
          link := { b.link with accepted := c, candidate := some c }
          control := { b.control with node := s } }, q⟩) ∧
        (s = .halted → exec i ⟨n, q⟩ = .next ⟨{ b with
          link := { b.link with accepted := c, candidate := some c }
          control := { b.control with node := .halted }
          levels :=
            { pairs := .replicate 16 {}, speakers := .replicate 24 {}
              clips := .ofFn fun k => { b.levels.clips[k] with running := false } }
          eq := { b.eq with
            records := .ofFn (fun k => {
              current := match b.eq.records[k].phase with
                | .idle => b.eq.records[k].current
                | .waiting queued => queued
                | .fading target none => target
                | .fading _ (some pending) => pending })
            slots := .replicate 8 none, waiting := [] } }, q⟩)))

/-- R132, R147: CLEAR takes one frame's code, after the boundary before it (log entry 13). The first of two frames makes
it the candidate, and once it is the accepted code nothing further happens. Its acceptance re-latches the address from
the frame's hop count, enters STARTING for 0 to 3 and PASSIVE for 4 to 7, and takes every table, live state, processing
state, queue and flag to its reset value. Both receivers, the block count and the frames on their way are kept, and into
STARTING the pass-through store too; a reply partly sent is ended by an ABORT. -/
def Obligations.ClearRestoresTheNode : Prop :=
  ∀ (n b : Node) (q : List Instr) (hop : BitVec 3), b = completeBoundary n → b.control.node ≠ .detached →
    (b.link.candidate ≠ some .clear →
      exec (.clear hop) ⟨n, q⟩ = .next ⟨{ b with link := { b.link with candidate := some .clear } }, q⟩) ∧
    (b.link.candidate = some .clear → b.link.accepted = .clear → exec (.clear hop) ⟨n, q⟩ = .next ⟨b, q⟩) ∧
    (b.link.candidate = some .clear → b.link.accepted ≠ .clear →
      ∃ m : Node, exec (.clear hop) ⟨n, q⟩ = .next ⟨m, q⟩ ∧
        m = { ({} : Node) with
          control := { b.control with
            node := if hop.toNat < 4 then .starting else .passive, returnState := none, clearCount := 0 }
          link := { b.link with accepted := .clear, address := some hop, mismatch := 0 }
          settingLane := { assembly := m.settingLane.assembly, queue := [] }
          liveLane := { assembly := m.liveLane.assembly, queue := [] }
          merger := m.merger
          choice := b.choice } ∧
        m.settingLane.assembly =
          (if hop.toNat < 4 ∧ b.settingLane.assembly = .ready then .ready else .skipping) ∧
        m.liveLane.assembly = (if hop.toNat < 4 ∧ b.liveLane.assembly = .ready then .ready else .skipping) ∧
        (4 ≤ hop.toNat → m.merger = { store := [], input := .skipping, output := .between }) ∧
        (hop.toNat < 4 → m.merger.store = b.merger.store ∧ m.merger.input = b.merger.input ∧
          (∀ pos, 1 ≤ pos → b.merger.output = .sendingReply pos → m.merger.output = .aborting) ∧
          (b.merger.output = .between ∨ b.merger.output = .sendingPass → m.merger.output = b.merger.output)))

/-- R131, R144: in STARTING, HALTED, QUIET and ACTIVE an addressed node checks a frame's hop count after the boundary
before it (the row stands for that check, the model's reading, log entry 14). An equal count clears the mismatch count,
the first different one counts, and the second in a row enters FAULT, which silences every level, settles every speaker
on its last desired set by its EQ state (R91), abandons the clear count, leaving it 0 (log entry 23), and keeps the
tables, the live state, the queues and the flags. In FAULT and PASSIVE the check does not run. -/
def Obligations.HopMismatchFaults : Prop :=
  ∀ (n b : Node) (q : List Instr) (hop a : BitVec 3), b = completeBoundary n → b.link.address = some a →
    (b.control.node = .starting ∨ b.control.node = .halted ∨ b.control.node = .quiet ∨ b.control.node = .active →
      (hop = a → exec (.hopMismatchFault hop) ⟨n, q⟩ =
        .next ⟨{ b with link := { b.link with mismatch := 0 } }, q⟩) ∧
      (hop ≠ a → b.link.mismatch = 0 → exec (.hopMismatchFault hop) ⟨n, q⟩ =
        .next ⟨{ b with link := { b.link with mismatch := 1 } }, q⟩) ∧
      (hop ≠ a → b.link.mismatch = 1 → exec (.hopMismatchFault hop) ⟨n, q⟩ = .next ⟨{ b with
        control := { b.control with node := .fault, clearCount := 0 }
        link := { b.link with mismatch := 0 }
        levels :=
          { pairs := .replicate 16 {}, speakers := .replicate 24 {}
            clips := .ofFn fun k => { b.levels.clips[k] with running := false } }
        eq := { b.eq with
          records := .ofFn (fun k => {
            current := match b.eq.records[k].phase with
              | .idle => b.eq.records[k].current
              | .waiting queued => queued
              | .fading target none => target
              | .fading _ (some pending) => pending })
          slots := .replicate 8 none, waiting := [] } }, q⟩)) ∧
    (b.control.node = .fault ∨ b.control.node = .passive →
      exec (.hopMismatchFault hop) ⟨n, q⟩ = .next ⟨b, q⟩)

/-- R132: the accepted code changes only to a defined code received in two frames that follow each other, or to HALT
at reset. Each step that changes it runs the reset, or a command that brings the code the candidate already holds, and
a candidate comes only from a command that brings it; a frame with another code or with none, and a missed frame,
take the candidate away. -/
def Obligations.AcceptedCodeNeedsTwoFrames : Prop :=
  ∀ (n m : Node) (i : Instr) (q r : List Instr),
    step ⟨n, i :: q⟩ = .next ⟨m, r⟩ →
    (m.link.accepted ≠ n.link.accepted →
      (i = .resetAssert ∧ m.link.accepted = .halt) ∨
      (n.link.candidate = some m.link.accepted ∧ bringsCode i m.link.accepted)) ∧
    (∀ c, m.link.candidate = some c → n.link.candidate = some c ∨ bringsCode i c) ∧
    (∀ (f : DownFrame) (k : Nat), i = .downstreamFrame f → n.link.head = .locked k → n.control.node ≠ .detached →
      ∀ c, m.link.candidate = some c → bringsCode i c) ∧
    (∀ k, i = .missedFrame → n.link.head = .locked k → n.control.node ≠ .detached → m.link.candidate = none)

/-! ### The block boundary -/

/-- R155, R86, R140, R105: a boundary is taken work by work, each work once, the live lane before the setting lane, due
completions in slot order, the end of STARTING before or after the executor's take and not inside it, a RAMP_CONTROL
before or after the steps of all the units it names; what order else is open. Completing it leaves no work untaken. -/
def Obligations.BlockBoundaryTakesEveryWorkOnce : Prop :=
  ∀ (n : Node) (q : List Instr),
    (∃ m : Node, exec .blockBoundary ⟨n, q⟩ = .next ⟨m, q⟩ ∧ m.boundary = []) ∧
    (n.boundary = [] → exec .blockBoundary ⟨n, q⟩ = .next ⟨n, q⟩) ∧
    (n.boundary ≠ [] → ∃ (w : Work) (m : Node), w ∈ n.boundary ∧
      (w = .settingTake → .liveTake ∉ n.boundary) ∧
      (∀ i j : Fin 8, w = .complete i → j < i → .complete j ∈ n.boundary → fadeDue j n = false) ∧
      (w = .starting → .liveTake ∈ n.boundary ∨ .settingTake ∉ n.boundary) ∧
      (∀ (r : Message) (rest : List Message) (mask : Byte) (others : List Byte), w = .liveTake →
        n.liveLane.queue = r :: rest → requestKind .live r = some .rampControl → r.payload = mask :: others →
        ∀ u v : Fin 6, mask.toNat.testBit u.val = true → mask.toNat.testBit v.val = true →
          (.ramp u ∈ n.boundary ↔ .ramp v ∈ n.boundary)) ∧
      m = takeWork w { n with choice := n.choice + 1 } ∧ m.boundary = n.boundary.erase w ∧
      exec .blockBoundary ⟨n, q⟩ = exec .blockBoundary ⟨m, q⟩)

/-- R17, R39: whatever order a boundary takes, no applied code moves further in it than the slew that governs it: a
pair's falls by at most its zone's down-slew and rises by at most its up-slew, a speaker's moves by at most its zone's
speaker slew. The setting queue is empty, so the boundary writes no table. -/
def Obligations.BoundaryObeysTheSlews : Prop :=
  ∀ (n m : Node) (q : List Instr), n.settingLane.queue = [] → n.boundary.count .compose ≤ 1 →
    exec .blockBoundary ⟨n, q⟩ = .next ⟨m, q⟩ →
    (∀ z p : Fin 4,
      n.levels.pairs[pairIndex z p].applied - n.tables.zones[z].downSlew ≤ m.levels.pairs[pairIndex z p].applied ∧
      m.levels.pairs[pairIndex z p].applied ≤ n.levels.pairs[pairIndex z p].applied + n.tables.zones[z].upSlew) ∧
    ∀ k : Fin 24,
      n.levels.speakers[k].applied - n.tables.zones[n.tables.speakers[k].zone].speakerSlew ≤
        m.levels.speakers[k].applied ∧
      m.levels.speakers[k].applied ≤
        n.levels.speakers[k].applied + n.tables.zones[n.tables.speakers[k].zone].speakerSlew

/-- R36, R39, R40, R16: the level composition of a boundary in QUIET or ACTIVE, as the work that is left. Each pair's
target is the clamped sum of volume, trim and duck code; its applied code moves toward it by at most a slew, and the
mapped ramp output is added after it. Every other piece of state stands. -/
def Obligations.ComposesPairs : Prop :=
  ∀ (n : Node) (q : List Instr), n.control.node = .quiet ∨ n.control.node = .active → n.boundary = [.compose] →
    ∃ m : Node, exec .blockBoundary ⟨n, q⟩ = .next ⟨m, q⟩ ∧
      m = { n with
        boundary := [], choice := n.choice + 1,
        levels := { n.levels with pairs := m.levels.pairs, speakers := m.levels.speakers } } ∧
      ∀ (z p : Fin 4) (target ducked applied : Int),
        ducked ≤ 0 → (∀ r : Fin 4, r ≠ p → n.detectors[r].present = true → ducked ≤ n.tables.duck[duckIndex z r p]) →
        (ducked = 0 ∨ ∃ r : Fin 4, r ≠ p ∧ n.detectors[r].present = true ∧
          ducked = n.tables.duck[duckIndex z r p]) →
        target = max (-960) (min 0
          ((if n.tables.pairs[pairIndex z p].follow then n.live.zones[z].volumeCode else 0) +
            n.live.zones[z].trims[p] + ducked)) →
        applied = (if target < n.levels.pairs[pairIndex z p].applied then
            max target (n.levels.pairs[pairIndex z p].applied - n.tables.zones[z].downSlew)
          else min target (n.levels.pairs[pairIndex z p].applied + n.tables.zones[z].upSlew)) →
        m.levels.pairs[pairIndex z p].applied = applied ∧
        (∀ ramp : Int, (∀ u, n.tables.pairs[pairIndex z p].ramp = some u → ramp = n.ramps[u].output) →
          (n.tables.pairs[pairIndex z p].ramp = none → ramp = 0) →
          m.levels.pairs[pairIndex z p].effective = max (-960) (min 0 (applied + ramp))) ∧
        m.levels.pairs[pairIndex z p].linear = linearGain m.levels.pairs[pairIndex z p].effective

/-- R38, R37, R63, R39, R40, R29, R95: the same composition for the speakers. An enabled speaker's target is the
clamped sum of trim, balance and fade attenuation, applied lift and guard code, or -960 when a mute covers it or the
node is in QUIET; a disabled speaker's gain stands. And the shelf forms every zone's linear gain from its applied bass,
as the work that is left. -/
def Obligations.ComposesSpeakersAndFormsTheShelf : Prop :=
  (∀ (n : Node) (q : List Instr), n.control.node = .quiet ∨ n.control.node = .active → n.boundary = [.compose] →
     ∃ m : Node, exec .blockBoundary ⟨n, q⟩ = .next ⟨m, q⟩ ∧
       ∀ (k : Fin 24) (z : Fin 4) (balance fade lift target applied : Int), n.tables.speakers[k].zone = z →
         (balance = if (n.tables.speakers[k].side = .left ∧ 0 ≤ n.live.zones[z].balance) ∨
             (n.tables.speakers[k].side = .right ∧ n.live.zones[z].balance ≤ 0)
           then n.tables.balance.toList.getD n.live.zones[z].balance.natAbs 0 else 0) →
         (fade = if (n.tables.speakers[k].along = .front ∧ 0 ≤ n.live.zones[z].fade) ∨
             (n.tables.speakers[k].along = .rear ∧ n.live.zones[z].fade ≤ 0)
           then n.tables.balance.toList.getD n.live.zones[z].fade.natAbs 0
           else if n.tables.speakers[k].along = .mid
           then (n.tables.balance.toList.getD n.live.zones[z].fade.natAbs 0).tdiv 2 else 0) →
         lift = min (n.tracker.zones[z].smoothed : Int) (max 0 (n.tables.zones[z].ceiling - n.live.zones[z].volumeCode)) →
         (target = if n.live.mutes[k] = true ∨ n.live.zones[z].mute = true ∨ n.control.node = .quiet then -960
           else max (-960) (min 192
             (n.tables.speakers[k].trim + balance + fade + lift + n.guards[z].code))) →
         applied = (if target < n.levels.speakers[k].applied then
             max target (n.levels.speakers[k].applied - n.tables.zones[z].speakerSlew)
           else min target (n.levels.speakers[k].applied + n.tables.zones[z].speakerSlew)) →
         (n.tables.speakers[k].enabled = false → m.levels.speakers[k] = n.levels.speakers[k]) ∧
         (n.tables.speakers[k].enabled = true →
           m.levels.speakers[k].applied = applied ∧
           (∀ ramp : Int, (∀ u, n.tables.speakers[k].ramp = some u → ramp = n.ramps[u].output) →
             (n.tables.speakers[k].ramp = none → ramp = 0) →
             m.levels.speakers[k].effective = max (-960) (min 192 (applied + ramp))) ∧
           m.levels.speakers[k].linear = linearGain m.levels.speakers[k].effective)) ∧
  (∀ (n : Node) (q : List Instr), n.control.node = .quiet ∨ n.control.node = .active → n.boundary = [.shelf] →
     ∃ m : Node, exec .blockBoundary ⟨n, q⟩ = .next ⟨m, q⟩ ∧
       m = { n with boundary := [], choice := n.choice + 1, eq := { n.eq with
         zoneGain := m.eq.zoneGain, flatShelf := m.eq.flatShelf } } ∧
       ∀ k : Fin 24, shelfGain m k = linearGain n.tracker.zones[n.tables.speakers[k].zone].bass)

/-- R20: the conversion of a gain code to a linear gain, with its 48 mantissas: m(r) is 2^(r/48) times 2^22 rounded,
which is that (2m - 1)^48 ≤ 2^(r + 1104) < (2m + 1)^48. -/
def Obligations.LinearGainConverts : Prop :=
  linearGain (-960) = 0 ∧
  (∀ r : Fin 48, (2 * mantissa r.val - 1) ^ 48 ≤ 2 ^ (r.val + 1104) ∧
    2 ^ (r.val + 1104) < (2 * mantissa r.val + 1) ^ 48 ∧ mantissa r.val < 2 ^ 23) ∧
  (∀ r s : Fin 48, r < s → mantissa r.val < mantissa s.val) ∧
  (∀ (g q : Int) (r : Nat), -959 ≤ g → g ≤ 192 → r < 48 → g = 48 * q + r →
    (0 ≤ q → linearGain g = mantissa r * 2 ^ q.toNat) ∧
    (q < 0 → linearGain g = (mantissa r + 2 ^ ((-q).toNat - 1)) / 2 ^ (-q).toNat) ∧
    4 ≤ linearGain g ∧ linearGain g ≤ 2 ^ 26) ∧
  linearGain 192 = 67108864 ∧ linearGain 48 = 8388608 ∧ linearGain 24 = 5931642 ∧ linearGain 4 = 4443710 ∧
  linearGain 0 = 4194304 ∧ linearGain (-1) = 4134171 ∧ linearGain (-48) = 2097152 ∧ linearGain (-240) = 131072 ∧
  linearGain (-288) = 65536 ∧ linearGain (-959) = 4

/-- R57: a curve at a speed: 0 without breakpoints, the end values outside them, and between two breakpoints the
truncated interpolation, which lies between their values. -/
def Obligations.CurveIsInterpolated : Prop :=
  ∀ (points : List Breakpoint) (s : Nat), List.Pairwise (fun a b => a.speed < b.speed) points →
    (points = [] → curveValue points s = (0, 0)) ∧
    (∀ a rest, points = a :: rest → s ≤ a.speed → curveValue points s = (a.lift, a.bass)) ∧
    (∀ a front, points = front ++ [a] → a.speed ≤ s → curveValue points s = (a.lift, a.bass)) ∧
    (∀ a b front rest, points = front ++ a :: b :: rest → a.speed < s → s < b.speed →
      ((curveValue points s).1 : Int) =
        a.lift + (((b.lift : Int) - a.lift) * ((s : Int) - a.speed)).tdiv ((b.speed : Int) - a.speed) ∧
      ((curveValue points s).2 : Int) =
        a.bass + (((b.bass : Int) - a.bass) * ((s : Int) - a.speed)).tdiv ((b.speed : Int) - a.speed) ∧
      min a.lift b.lift ≤ (curveValue points s).1 ∧ (curveValue points s).1 ≤ max a.lift b.lift ∧
      min a.bass b.bass ≤ (curveValue points s).2 ∧ (curveValue points s).2 ≤ max a.bass b.bass) ∧
    (∀ a ∈ points, s = a.speed → curveValue points s = (a.lift, a.bass))

/-- R53, R54, R56, R58 to R62, R67: the tracker's step at a boundary, as the work that is left. The count of the speed
state advances and may make it STALE or FAILED, each zone's target follows the curve with its hysteresis, the smoothed
lift attacks or releases, and the applied bass moves by one. -/
def Obligations.TrackerTakesItsStep : Prop :=
  ∀ (n : Node) (q : List Instr), inService n.control.node = true → n.boundary = [.track] →
    ∃ m : Node, exec .blockBoundary ⟨n, q⟩ = .next ⟨m, q⟩ ∧
      m = { n with boundary := [], choice := n.choice + 1, tracker := m.tracker, events := m.events } ∧
      m.tracker.speed = n.tracker.speed ∧ m.tracker.raw = n.tracker.raw ∧ m.tracker.band = n.tracker.band ∧
      m.tracker.cabin = n.tracker.cabin ∧
      (n.tracker.state = .live → m.tracker.stale = n.tracker.stale + 1 ∧
        (n.tables.settings.staleTime ≤ n.tracker.stale + 1 →
          m.tracker.state = .stale ∧ m.tracker.fail = 0 ∧ m.events = n.events ||| 0x40#13) ∧
        (n.tracker.stale + 1 < n.tables.settings.staleTime →
          m.tracker.state = .live ∧ m.tracker.fail = n.tracker.fail ∧ m.events = n.events)) ∧
      (n.tracker.state = .stale → m.tracker.stale = n.tracker.stale ∧ m.tracker.fail = n.tracker.fail + 1 ∧
        (n.tables.settings.failTime ≤ n.tracker.fail + 1 →
          m.tracker.state = .failed ∧ m.events = n.events ||| 0x80#13) ∧
        (n.tracker.fail + 1 < n.tables.settings.failTime → m.tracker.state = .stale ∧ m.events = n.events)) ∧
      (n.tracker.state = .none ∨ n.tracker.state = .failed → m.tracker.state = n.tracker.state ∧
        m.tracker.stale = n.tracker.stale ∧ m.tracker.fail = n.tracker.fail ∧ m.events = n.events) ∧
      ∀ (z : Fin 4) (curve : Curve) (c cb : Nat), curve = n.tables.curves[n.tables.zones[z].curve] →
        c = min 192 ((curveValue curve.points n.tracker.speed).1 +
          ((if n.tracker.cabin.getLsbD 0 then curve.offsets[0] else 0) +
           (if n.tracker.cabin.getLsbD 1 then curve.offsets[1] else 0) +
           (if n.tracker.cabin.getLsbD 2 then curve.offsets[2] else 0) +
           (if n.tracker.cabin.getLsbD 3 then curve.offsets[3] else 0))) →
        cb = (curveValue curve.points n.tracker.speed).2 →
        (m.tracker.state = .live → n.tracker.zones[z].target < c ∨
            c + n.tables.settings.hysteresis < n.tracker.zones[z].target →
          m.tracker.zones[z].target = c ∧ m.tracker.zones[z].bassTarget = cb) ∧
        (m.tracker.state = .stale ∨ m.tracker.state = .live ∧ c ≤ n.tracker.zones[z].target ∧
            n.tracker.zones[z].target ≤ c + n.tables.settings.hysteresis →
          m.tracker.zones[z].target = n.tracker.zones[z].target ∧
          m.tracker.zones[z].bassTarget = n.tracker.zones[z].bassTarget) ∧
        (m.tracker.state = .none ∨ m.tracker.state = .failed →
          m.tracker.zones[z].target = 0 ∧ m.tracker.zones[z].bassTarget = 0) ∧
        (n.tracker.zones[z].smoothed < m.tracker.zones[z].target →
          m.tracker.zones[z].smoothed =
            min (n.tracker.zones[z].smoothed + n.tables.settings.attack) m.tracker.zones[z].target ∧
          m.tracker.zones[z].release = 0) ∧
        (n.tracker.zones[z].smoothed = m.tracker.zones[z].target →
          m.tracker.zones[z].smoothed = n.tracker.zones[z].smoothed ∧ m.tracker.zones[z].release = 0) ∧
        (m.tracker.zones[z].target < n.tracker.zones[z].smoothed →
          (n.tables.settings.release ≤ n.tracker.zones[z].release + 1 →
            m.tracker.zones[z].smoothed = n.tracker.zones[z].smoothed - 1 ∧ m.tracker.zones[z].release = 0) ∧
          (n.tracker.zones[z].release + 1 < n.tables.settings.release →
            m.tracker.zones[z].smoothed = n.tracker.zones[z].smoothed ∧
            m.tracker.zones[z].release = n.tracker.zones[z].release + 1)) ∧
        (n.tracker.zones[z].bass < m.tracker.zones[z].bassTarget →
          m.tracker.zones[z].bass = n.tracker.zones[z].bass + 1) ∧
        (m.tracker.zones[z].bassTarget < n.tracker.zones[z].bass →
          m.tracker.zones[z].bass + 1 = n.tracker.zones[z].bass) ∧
        (n.tracker.zones[z].bass = m.tracker.zones[z].bassTarget →
          m.tracker.zones[z].bass = n.tracker.zones[z].bass)

/-- R114 to R116, R119: the guard's step at a boundary, as the work that is left. A zone whose guard is on attacks
where a speaker that names it hands on a set mark, and otherwise counts its hold down and then recovers; a zone whose
guard is off is left alone, and GUARD_ACTIVE is set by an attack from 0. -/
def Obligations.GuardTakesItsStep : Prop :=
  ∀ (n : Node) (q : List Instr), inService n.control.node = true → n.boundary = [.guardStep] →
    ∃ m : Node, exec .blockBoundary ⟨n, q⟩ = .next ⟨m, q⟩ ∧
      m = { n with boundary := [], choice := n.choice + 1, guards := m.guards, events := m.events } ∧
      (∀ z : Fin 4,
        (n.tables.zones[z].guardOn = false → m.guards[z] = n.guards[z]) ∧
        (n.tables.zones[z].guardOn = true →
          ((∃ k : Fin 24, n.tables.speakers[k].zone = z ∧ n.levels.clips[k].last = true) →
            m.guards[z] =
              { code := max (n.guards[z].code - n.tables.zones[z].attack) n.tables.zones[z].floor
                hold := n.tables.zones[z].hold, recover := 0 }) ∧
          ((∀ k : Fin 24, n.tables.speakers[k].zone = z → n.levels.clips[k].last = false) →
            (0 < n.guards[z].hold → m.guards[z] = { n.guards[z] with hold := n.guards[z].hold - 1 }) ∧
            (n.guards[z].hold = 0 → n.guards[z].code < 0 →
              (n.tables.zones[z].recover ≤ n.guards[z].recover + 1 →
                m.guards[z] = { n.guards[z] with code := n.guards[z].code + 1, recover := 0 }) ∧
              (n.guards[z].recover + 1 < n.tables.zones[z].recover →
                m.guards[z] = { n.guards[z] with recover := n.guards[z].recover + 1 })) ∧
            (n.guards[z].hold = 0 → n.guards[z].code = 0 → m.guards[z] = { code := 0, hold := 0, recover := 0 })))) ∧
      ((∃ z : Fin 4, n.tables.zones[z].guardOn = true ∧ n.guards[z].code = 0 ∧
          ∃ k : Fin 24, n.tables.speakers[k].zone = z ∧ n.levels.clips[k].last = true) →
        m.events = n.events ||| 0x400#13) ∧
      ((∀ z : Fin 4, n.tables.zones[z].guardOn = true → n.guards[z].code = 0 →
          ∀ k : Fin 24, n.tables.speakers[k].zone = z → n.levels.clips[k].last = false) → m.events = n.events)

/-- R12: a detector judges the block that has ended, as the work that is left; and the event in which an AUTO program
whose quiet count reaches its hold becomes absent, which is its judgement at the boundary. -/
def Obligations.DetectorJudgesTheBlock : Prop :=
  (∀ (n : Node) (q : List Instr) (p : Fin 4), inService n.control.node = true → n.boundary = [.judge p] →
     ∃ m : Node, exec .blockBoundary ⟨n, q⟩ = .next ⟨m, q⟩ ∧
       m = { n with boundary := [], choice := n.choice + 1, detectors := m.detectors } ∧
       (∀ r : Fin 4, r ≠ p → m.detectors[r] = n.detectors[r]) ∧
       (n.detectors[p].mode = .off → m.detectors[p] = { n.detectors[p] with present := false, quiet := 0 }) ∧
       (n.detectors[p].mode = .on → m.detectors[p] = { n.detectors[p] with present := true, quiet := 0 }) ∧
       (n.detectors[p].mode = .auto →
         (n.tables.presence[p].threshold ≤ n.detectors[p].peak →
           m.detectors[p] = { n.detectors[p] with present := true, quiet := 0 }) ∧
         (n.detectors[p].peak < n.tables.presence[p].threshold →
           (n.detectors[p].present = false → m.detectors[p] = { n.detectors[p] with quiet := 0 }) ∧
           (n.detectors[p].present = true →
             (n.tables.presence[p].hold ≤ n.detectors[p].quiet + 1 →
               m.detectors[p] = { n.detectors[p] with present := false, quiet := 0 }) ∧
             (n.detectors[p].quiet + 1 < n.tables.presence[p].hold →
               m.detectors[p] = { n.detectors[p] with quiet := n.detectors[p].quiet + 1 }))))) ∧
  (∀ (n : Node) (q : List Instr) (p : Fin 4), inService n.control.node = true → .judge p ∈ n.boundary →
     n.detectors[p].mode = .auto → n.detectors[p].present = true →
     n.detectors[p].peak < n.tables.presence[p].threshold → n.tables.presence[p].hold ≤ n.detectors[p].quiet + 1 →
     exec (.presenceHoldExpiry p) ⟨n, q⟩ = .next ⟨{ n with
       boundary := n.boundary.erase (.judge p)
       detectors := .ofFn fun r =>
         if r = p then { n.detectors[p] with present := false, quiet := 0 } else n.detectors[r] }, q⟩)

/-- R99 to R104, R110: a ramp unit's step at a boundary, as the work that is left. In HOLD nothing moves; RUN and ONCE
enter a segment where none is open and move along it, STEP jumps to its target; a list that ends without repeat ends in
HOLD with the done flag and RAMP_DONE. -/
def Obligations.RampUnitTakesItsStep : Prop :=
  ∀ (n : Node) (q : List Instr) (u : Fin 6) (r : RampUnit) (l : RampList), inService n.control.node = true →
    n.boundary = [.ramp u] → r = n.ramps[u] → l = n.tables.ramps[u] →
    ∃ m : Node, exec .blockBoundary ⟨n, q⟩ = .next ⟨m, q⟩ ∧
      m = { n with boundary := [], choice := n.choice + 1, ramps := m.ramps, events := m.events } ∧
      (∀ v : Fin 6, v ≠ u → m.ramps[v] = n.ramps[v]) ∧
      (r.mode = .hold → m.ramps[u] = r ∧ m.events = n.events) ∧
      (∀ (g : OpenSegment) (i : Nat) (loops : Loops), r.mode ≠ .hold →
        (r.segment = some g ∧ i = r.index ∧ loops = r.loops ∨
          r.segment = none ∧ ∃ seg, l.segments[i]? = some seg ∧
            g = { start := r.output, target := seg.target, duration := seg.duration, position := 0 } ∧
            (i = r.index ∧ loops = r.loops ∨
              l.segments.length ≤ r.index ∧ (∃ b : Fin 16, l.loopStart = some b ∧ b.val = i) ∧
                (r.loops = .endless ∧ loops = .endless ∨ ∃ k, r.loops = .count (k + 1) ∧ loops = .count k))) →
        m.events = n.events ∧
        (r.mode = .step → m.ramps[u] =
          { mode := .hold, index := i + 1, segment := none, loops := loops, output := g.target, done := r.done }) ∧
        (r.mode ≠ .step → g.position < g.duration → m.ramps[u] =
          { mode := r.mode, index := i, segment := some { g with position := g.position + 1 }, loops := loops
            output := g.start + ((g.target - g.start) * (g.position + 1)).tdiv (g.duration + 1), done := r.done }) ∧
        (r.mode ≠ .step → g.position = g.duration → m.ramps[u] =
          { mode := if r.mode = .once then .hold else .run, index := i + 1, segment := none, loops := loops
            output := g.target, done := r.done })) ∧
      (r.mode ≠ .hold → r.segment = none → l.segments.length ≤ r.index →
        (r.loops = .count 0 ∨ l.loopStart = none ∨ ∃ b : Fin 16, l.loopStart = some b ∧ l.segments.length ≤ b.val) →
        m.ramps[u] = { r with mode := .hold, done := true } ∧ m.events = n.events ||| 0x200#13)

/-! ### Events of a boundary -/

/-- R53, R54, R61, R116: the events of the tracker's and of the guard's step. Each is that step at this boundary, the one
that BLOCK_BOUNDARY takes: the stale time is reached in LIVE, the fail time in STALE, or a zone's release count reaches
the release interval with its smoothed lift above the target that the step leaves, which lowers the lift by one; in a
clear zone whose guard is on, its hold counts down to 0, or its recover count reaches the interval and its code rises
by one. -/
def Obligations.TrackerAndGuardEventsComeAbout : Prop :=
  (∀ (n : Node) (q : List Instr), inService n.control.node = true → .track ∈ n.boundary →
     (n.tracker.state = .live → n.tables.settings.staleTime ≤ n.tracker.stale + 1 →
       ∃ m : Node, exec .staleTimeExpiry ⟨n, q⟩ = .next ⟨m, q⟩ ∧
         m = { n with
           boundary := n.boundary.erase .track, tracker := m.tracker, events := n.events ||| 0x40#13 } ∧
         m.tracker.state = .stale ∧ m.tracker.stale = n.tracker.stale + 1 ∧ m.tracker.fail = 0 ∧
         (∀ z : Fin 4, m.tracker.zones[z].target = n.tracker.zones[z].target) ∧
         exec .blockBoundary ⟨{ n with boundary := [.track] }, q⟩ =
           .next ⟨{ m with boundary := [], choice := n.choice + 1 }, q⟩) ∧
     (n.tracker.state = .stale → n.tables.settings.failTime ≤ n.tracker.fail + 1 →
       ∃ m : Node, exec .failTimeExpiry ⟨n, q⟩ = .next ⟨m, q⟩ ∧
         m = { n with
           boundary := n.boundary.erase .track, tracker := m.tracker, events := n.events ||| 0x80#13 } ∧
         m.tracker.state = .failed ∧ m.tracker.fail = n.tracker.fail + 1 ∧
         (∀ z : Fin 4, m.tracker.zones[z].target = 0 ∧ m.tracker.zones[z].bassTarget = 0) ∧
         exec .blockBoundary ⟨{ n with boundary := [.track] }, q⟩ =
           .next ⟨{ m with boundary := [], choice := n.choice + 1 }, q⟩) ∧
     ∀ (z : Fin 4) (target : Nat),
       ((n.tracker.state = .none ∨ n.tracker.state = .failed ∨
           n.tracker.state = .stale ∧ n.tables.settings.failTime ≤ n.tracker.fail + 1) ∧ target = 0 ∨
         (n.tracker.state = .stale ∧ n.tracker.fail + 1 < n.tables.settings.failTime ∨
           n.tracker.state = .live ∧ n.tables.settings.staleTime ≤ n.tracker.stale + 1) ∧
           target = n.tracker.zones[z].target ∨
         n.tracker.state = .live ∧ n.tracker.stale + 1 < n.tables.settings.staleTime ∧
           target = (if n.tracker.zones[z].target < (zoneCurve n z).1 ∨
               (zoneCurve n z).1 + n.tables.settings.hysteresis < n.tracker.zones[z].target
             then (zoneCurve n z).1 else n.tracker.zones[z].target)) →
       target < n.tracker.zones[z].smoothed → n.tables.settings.release ≤ n.tracker.zones[z].release + 1 →
       ∃ m : Node, exec (.liftReleaseStep z) ⟨n, q⟩ = .next ⟨m, q⟩ ∧
         m = { n with boundary := n.boundary.erase .track, tracker := m.tracker, events := m.events } ∧
         m.tracker.zones[z].target = target ∧
         m.tracker.zones[z].smoothed + 1 = n.tracker.zones[z].smoothed ∧ m.tracker.zones[z].release = 0 ∧
         exec .blockBoundary ⟨{ n with boundary := [.track] }, q⟩ =
           .next ⟨{ m with boundary := [], choice := n.choice + 1 }, q⟩) ∧
  (∀ (n : Node) (q : List Instr) (z : Fin 4) (c : Instr), inService n.control.node = true → .guardStep ∈ n.boundary →
     n.tables.zones[z].guardOn = true →
     (∀ k : Fin 24, n.tables.speakers[k].zone = z → n.levels.clips[k].last = false) →
     (c = .guardHoldEnd z ∧ n.guards[z].hold = 1) ∨
       (c = .guardRecoveryStep z ∧ n.guards[z].hold = 0 ∧ n.guards[z].code < 0 ∧
         n.tables.zones[z].recover ≤ n.guards[z].recover + 1) →
     ∃ m : Node, exec c ⟨n, q⟩ = .next ⟨m, q⟩ ∧
       m = { n with boundary := n.boundary.erase .guardStep, guards := m.guards, events := m.events } ∧
       m.guards[z] = (if n.guards[z].hold = 1 then { n.guards[z] with hold := 0 }
         else { code := n.guards[z].code + 1, hold := 0, recover := 0 }) ∧
       exec .blockBoundary ⟨{ n with boundary := [.guardStep] }, q⟩ =
         .next ⟨{ m with boundary := [], choice := n.choice + 1 }, q⟩)

/-- R100, R102: a unit in RUN or ONCE at the last block of its segment takes the target and closes it: the index
advances, and ONCE returns to HOLD. A segment of duration 0 is entered and closed at one boundary. -/
def Obligations.RampSegmentCloses : Prop :=
  ∀ (n : Node) (q : List Instr) (u : Fin 6) (r : RampUnit) (l : RampList) (target : Int) (i : Nat) (loops : Loops),
    inService n.control.node = true → .ramp u ∈ n.boundary → r = n.ramps[u] → l = n.tables.ramps[u] →
    r.mode = .run ∨ r.mode = .once →
    ((∃ g, r.segment = some g ∧ g.position = g.duration ∧ target = g.target) ∧ i = r.index ∧ loops = r.loops ∨
      r.segment = none ∧ l.segments[i]? = some { target := target, duration := 0 } ∧
        (i = r.index ∧ loops = r.loops ∨
          l.segments.length ≤ r.index ∧ (∃ b : Fin 16, l.loopStart = some b ∧ b.val = i) ∧
            (r.loops = .endless ∧ loops = .endless ∨ ∃ k, r.loops = .count (k + 1) ∧ loops = .count k))) →
    exec (.rampSegmentClose u) ⟨n, q⟩ = .next ⟨{ n with
      boundary := n.boundary.erase (.ramp u)
      ramps := .ofFn fun v =>
        if v = u then
          { mode := if r.mode = .once then .hold else .run, index := i + 1, segment := none
            loops := loops, output := target, done := r.done }
        else n.ramps[v] }, q⟩

/-- R86, R84: the completion of a crossfade that has reached its N blocks, in slot order. The target set becomes
current and the running chain takes the incoming chain's state. A pending set starts a new crossfade in the same slot;
without one the slot goes to the head of the wait queue, or stands free. That both commands take it, and that the
hand-over row gives a slot that stands free to the head of the wait queue, is the model's reading of the rows (log entry
30). A slot that stands free with speakers waiting occurs in no run: `CrossfadesFit.full` rules it out. -/
def Obligations.CrossfadeCompletes : Prop :=
  (∀ (n : Node) (q : List Instr) (i : Fin 8) (h : Held) (t : SetRef) (p : Option SetRef),
     inService n.control.node = true → .complete i ∈ n.boundary →
     (∀ j : Fin 8, j < i → .complete j ∈ n.boundary → fadeDue j n = false) →
     n.eq.slots[i] = some h → 32 * h.length ≤ h.count → n.eq.records[h.speaker].phase = .fading t p →
     (∀ s, p = some s → exec (.crossfadeComplete i) ⟨n, q⟩ = .next ⟨{ n with
       boundary := n.boundary.erase (.complete i)
       eq := { n.eq with
         slots := .ofFn (fun j => if j = i then
           some { speaker := h.speaker, length := n.tables.nodeEntry.crossfadeLength, count := 0 } else n.eq.slots[j])
         records := .ofFn (fun k => if k = h.speaker then
           { n.eq.records[k] with
             phase := .fading s none, current := t, running := n.eq.records[k].incoming, incoming := .replicate 8 {} }
           else n.eq.records[k]) } }, q⟩) ∧
     (p = none → n.eq.waiting = [] → exec (.crossfadeComplete i) ⟨n, q⟩ = .next ⟨{ n with
       boundary := n.boundary.erase (.complete i)
       eq := { n.eq with
         slots := .ofFn (fun j => if j = i then none else n.eq.slots[j])
         records := .ofFn (fun k => if k = h.speaker then
           { n.eq.records[k] with
             phase := .idle, current := t, running := n.eq.records[k].incoming, incoming := .replicate 8 {} }
           else n.eq.records[k]) } }, q⟩) ∧
     (∀ (w : Fin 24) (rest : List (Fin 24)) (s : SetRef) (c : Instr),
       p = none → n.eq.waiting = w :: rest → n.eq.records[w].phase = .waiting s →
       c = .crossfadeComplete i ∨ c = .crossfadeHandover i →
       exec c ⟨n, q⟩ = .next ⟨{ n with
         boundary := n.boundary.erase (.complete i)
         eq := { n.eq with
           waiting := rest
           slots := .ofFn (fun j => if j = i then
             some { speaker := w, length := n.tables.nodeEntry.crossfadeLength, count := 0 } else n.eq.slots[j])
           records := .ofFn (fun k => if k = h.speaker then
               { n.eq.records[k] with
                 phase := .idle, current := t, running := n.eq.records[k].incoming, incoming := .replicate 8 {} }
             else if k = w then { n.eq.records[k] with phase := .fading s none, incoming := .replicate 8 {} }
             else n.eq.records[k]) } }, q⟩)) ∧
  (∀ (n : Node) (q : List Instr) (i : Fin 8) (w : Fin 24) (rest : List (Fin 24)) (s : SetRef),
     n.eq.slots[i] = none → n.eq.waiting = w :: rest → n.eq.records[w].phase = .waiting s →
     exec (.crossfadeHandover i) ⟨n, q⟩ = .next ⟨{ n with
       eq := { n.eq with
         waiting := rest
         slots := .ofFn (fun j => if j = i then
           some { speaker := w, length := n.tables.nodeEntry.crossfadeLength, count := 0 } else n.eq.slots[j])
         records := .ofFn (fun k => if k = w then
           { n.eq.records[k] with phase := .fading s none, incoming := .replicate 8 {} }
           else n.eq.records[k]) } }, q⟩)

/-- R140: the count of STARTING at a boundary; at 256 the node enters the state of the accepted code, inside
BLOCK_BOUNDARY as the work that is left, and by the event. -/
def Obligations.StartingCountsAndEnds : Prop :=
  ∀ (n : Node) (q : List Instr), n.control.node = .starting →
    (n.control.clearCount + 1 < 256 → n.boundary = [.starting] → exec .blockBoundary ⟨n, q⟩ = .next ⟨{ n with
      boundary := [], choice := n.choice + 1
      control := { n.control with clearCount := n.control.clearCount + 1 } }, q⟩) ∧
    (n.control.clearCount = 255 → n.boundary = [.starting] → exec .blockBoundary ⟨n, q⟩ = .next ⟨{ n with
      boundary := [], choice := n.choice + 1
      control := { n.control with
        clearCount := 256
        node := if n.link.accepted = .run then .active else if n.link.accepted = .quiet then .quiet
          else .halted } }, q⟩) ∧
    (n.control.clearCount = 255 → .starting ∈ n.boundary → .liveTake ∈ n.boundary ∨ .settingTake ∉ n.boundary →
      exec .startingEnd ⟨n, q⟩ = .next ⟨{ n with
        boundary := n.boundary.erase .starting
        control := { n.control with
          clearCount := 256
          node := if n.link.accepted = .run then .active else if n.link.accepted = .quiet then .quiet
            else .halted } }, q⟩)

/-! ### The sample path of a frame -/

/-- R132, R131, R142, R144, R147, R11, R4, R151, R152: what a processed frame does to the node. Its command code acts as
the row of that code does, after the boundary before it, and a code that is none takes the candidate away; its hop count
then acts as the row HOP_MISMATCH_FAULT does, on the node that the code leaves (in this order, log entry 12). The node
state, the link's codes, address and mismatch count, the tables, the live state, the levels and, where no audio is
formed, the EQ state are those that the two rows leave. In a frame in which CLEAR is not accepted, a node in service
raises a program's block peak to the largest magnitude that an enabled source of the program brings, starting from 0
with the first frame of a block, and each cell acts on its lane, which nothing else touches; a node out of service takes
neither. After the frame in which CLEAR is accepted the lane queues are empty, the detectors are at their reset values
and no event flag stands, but where an END cell met a READY lane (log entry 34). -/
def Obligations.FrameTakesCodeHopCountPeaksAndCells : Prop :=
  (∀ (n b x y : Node) (q : List Instr) (k : Nat) (f : DownFrame), n.link.head = .locked k →
     b = completeBoundary { n with link := { n.link with head := .locked 0 } } → b.control.node ≠ .detached →
     (f.code = 0 ∨ 4 < f.code.toNat) ∧ x = { b with link := { b.link with candidate := none } } ∨
       (∃ i : Instr, (f.code = 1 ∧ i = .run ∨ f.code = 2 ∧ i = .quiet ∨ f.code = 3 ∧ i = .halt ∨
         f.code = 4 ∧ i = .clear f.hop) ∧ exec i ⟨b, q⟩ = .next ⟨x, q⟩) →
     exec (.hopMismatchFault f.hop) ⟨x, q⟩ = .next ⟨y, q⟩ →
     ∃ m : Node, exec (.downstreamFrame f) ⟨n, q⟩ = .next ⟨m, q⟩ ∧ m.control = y.control ∧
       m.link.accepted = y.link.accepted ∧ m.link.candidate = y.link.candidate ∧ m.link.address = y.link.address ∧
       m.link.mismatch = y.link.mismatch ∧ m.tables = y.tables ∧ m.live = y.live ∧
       m.levels.pairs = y.levels.pairs ∧ m.levels.speakers = y.levels.speakers ∧
       (y.control.node ≠ .quiet → y.control.node ≠ .active → m.eq = y.eq)) ∧
  ∀ (n b : Node) (q : List Instr) (k : Nat) (f : DownFrame), n.link.head = .locked k →
    b = completeBoundary { n with link := { n.link with head := .locked 0 } } →
    ∃ m : Node, exec (.downstreamFrame f) ⟨n, q⟩ = .next ⟨m, q⟩ ∧
      (f.code ≠ 4 ∨ b.link.candidate ≠ some .clear ∨ b.link.accepted = .clear →
        (inService b.control.node = true →
          m.settingLane = (takeCell .setting f.setting b).settingLane ∧
          m.liveLane = (takeCell .live f.live b).liveLane ∧
          m.events = (takeCell .live f.live (takeCell .setting f.setting b)).events ∧
          ∀ (p : Fin 4) (start : Nat), start = (if b.link.frameInBlock = 0 then 0 else b.detectors[p].peak) →
            m.detectors[p] = { b.detectors[p] with peak := m.detectors[p].peak } ∧ start ≤ m.detectors[p].peak ∧
            (∀ i : Fin 12, b.tables.sources[i].enabled = true → b.tables.sources[i].program = p →
              f.slots[b.tables.sources[i].slot].toInt.natAbs ≤ m.detectors[p].peak) ∧
            (m.detectors[p].peak = start ∨ ∃ i : Fin 12, b.tables.sources[i].enabled = true ∧
              b.tables.sources[i].program = p ∧
              m.detectors[p].peak = f.slots[b.tables.sources[i].slot].toInt.natAbs)) ∧
        (inService b.control.node = false →
          m.settingLane = b.settingLane ∧ m.liveLane = b.liveLane ∧ m.events = b.events ∧
          m.detectors = b.detectors)) ∧
      (b.control.node ≠ .detached → f.code = 4 → b.link.candidate = some .clear → b.link.accepted ≠ .clear →
        m.settingLane.queue = [] ∧ m.liveLane.queue = [] ∧ m.detectors = ({} : Node).detectors ∧
        (m.events = 0 ∨ b.settingLane.assembly = .ready ∧ f.setting.marker = .fin ∨
          b.liveLane.assembly = .ready ∧ f.live.marker = .fin))

/-- R7, R8, R72, R78, R85, R94, R42, R43, R125, R128, R129: the sample of an enabled speaker in a frame of QUIET or
ACTIVE that moves no state, or in a missed frame, whose source samples are 0. The taps are weighted, scaled by their
pairs' levels and summed to the premix; it passes the chain of the current set, or the crossfade toward the target set,
and each chain that runs keeps its new state (`chainState`, SectionsFilterInOrder); then the shelf; then the output
stage, whose value stands in the speaker's slot of the frame formed. A value outside the slot range counts as a clip and
sets the running mark, and every crossfade slot that is held counts the frame. -/
def Obligations.SpeakerPlaysItsPremix : Prop :=
  ∀ (n : Node) (q : List Instr) (c : Instr) (miss : Nat) (slots : Vector Sample 32) (k : Fin 24)
    (weighted : Tap → Int) (premix e lp z y : Int) (alpha : Nat) (r s : EqRecord),
    n.link.head = .locked miss → n.boundary = [] → n.control.node = .quiet ∨ n.control.node = .active →
    (c = .missedFrame ∧ miss < 3 ∧ slots = .replicate 32 0 ∨ ∃ f : DownFrame, c = .downstreamFrame f ∧
      slots = f.slots ∧ f.code = codeNumber n.link.accepted ∧ n.link.address = some f.hop) → SlotsDistinct n →
    n.tables.speakers[k].enabled = true → r = n.eq.records[k] → alpha = n.tables.speakers[k].alpha.toNat →
    (∀ t : Tap, weighted t = if n.tables.sources[t.source].enabled then
      ((slots[n.tables.sources[t.source].slot].toInt * t.weight.toInt + 2 ^ 13) / 2 ^ 14
        * (n.levels.pairs[pairIndex n.tables.speakers[k].zone n.tables.sources[t.source].program].linear : Int)
        + 2 ^ 21) / 2 ^ 22 else 0) →
    premix = max (-134217728) (min 134217727 (n.tables.speakers[k].taps.map weighted).sum) →
    ((∀ t p, r.phase ≠ .fading t p) ∧ e = chainOutput (sectionsOf n.tables r.current) r.running premix ∧
        s = { r with running := chainState (sectionsOf n.tables r.current) r.running premix, lp := lp } ∨
      ∃ (t : SetRef) (p : Option SetRef) (i : Fin 8) (h : Held), r.phase = .fading t p ∧
        n.eq.slots[i] = some h ∧ h.speaker = k ∧ (∀ (j : Fin 8) (g : Held), n.eq.slots[j] = some g → g.speaker = k → j = i) ∧
        e = chainOutput (sectionsOf n.tables r.current) r.running premix +
          ((chainOutput (sectionsOf n.tables t) r.incoming premix -
            chainOutput (sectionsOf n.tables r.current) r.running premix) * (h.count + 1)).tdiv (32 * h.length) ∧
        s = { r with
          running := chainState (sectionsOf n.tables r.current) r.running premix
          incoming := chainState (sectionsOf n.tables t) r.incoming premix
          lp := lp }) →
    lp = (if alpha = 0 then 0 else r.lp + ((e - r.lp) * alpha).tdiv 65536) →
    z = (if alpha = 0 then e else
      max (-134217728) (min 134217727 (e + (((shelfGain n k : Int) - 4194304) * lp).tdiv 4194304))) →
    y = (z * n.levels.speakers[k].linear + 2097152) / 4194304 →
    ∃ (m : Node) (g : DownFrame), exec c ⟨n, q⟩ = .next ⟨m, q⟩ ∧ m.link.formed1 = some g ∧
      g.slots[n.tables.speakers[k].slot].toInt = max (-8388608) (min 8388607 y) ∧
      m.eq.records[k] = s ∧
      (∀ i : Fin 8, m.eq.slots[i] = n.eq.slots[i].map fun h => { h with count := h.count + 1 }) ∧
      (n.link.frameInBlock < 31 → m.levels.clips[k].running =
        (decide (y < -8388608 ∨ 8388607 < y) || n.levels.clips[k].running)) ∧
      m.levels.clips[k].count = (if y < -8388608 ∨ 8388607 < y then min 255 (n.levels.clips[k].count + 1)
        else n.levels.clips[k].count)

/-- R72: a chain takes its sections in order, each a biquad on the sample that the one before it gives, and its state
shifts with the clamped output; the output of the last section is the chain's, and a chain of none, as FLAT is, gives
the sample as it comes. -/
def Obligations.SectionsFilterInOrder : Prop :=
  (∀ (cs : List Section) (c : Chain) (x : Int),
    chainOutput cs c x = (runSections cs c.toList x).2 ∧
    (cs.length ≤ 8 → (chainState cs c x).toList = (runSections cs c.toList x).1)) ∧
  (∀ (ss : List SectionState) (x : Int), runSections [] ss x = (ss, x)) ∧
  ∀ (c : Section) (cs : List Section) (s : SectionState) (ss : List SectionState) (x y : Int),
    y = max (-134217728) (min 134217727
      ((c.b0.toInt * x + c.b1.toInt * s.x1 + c.b2.toInt * s.x2 - c.a1.toInt * s.y1 - c.a2.toInt * s.y2 + 2097152)
        / 4194304)) →
    runSections (c :: cs) (s :: ss) x =
      ({ x1 := x, x2 := s.x1, y1 := y, y2 := s.y1 } :: (runSections cs ss y).1, (runSections cs ss y).2)

/-! ### Lane cells and messages -/

/-- R152, R161: what a cell does to its lane's assembly record, by the record's state and the cell's marker; a message
that ends is judged (R153). MALFORMED is flag 2. -/
def Obligations.CellsActOnTheAssemblyRecord : Prop :=
  ∀ (l : LaneId) (b : Byte) (n : Node),
    ((laneOf l n).assembly = .ready →
      takeCell l ⟨.idle, b⟩ n = n ∧ takeCell l ⟨.abort, b⟩ n = n ∧
      takeCell l ⟨.data, b⟩ n = withLane l { laneOf l n with assembly := .assembling [b] } n ∧
      takeCell l ⟨.fin, b⟩ n = judgeMessage l [b] n) ∧
    (∀ bytes : List Byte, (laneOf l n).assembly = .assembling bytes →
      takeCell l ⟨.idle, b⟩ n =
        withLane l { laneOf l n with assembly := .ready } { n with events := n.events ||| 0x4#13 } ∧
      takeCell l ⟨.abort, b⟩ n = withLane l { laneOf l n with assembly := .ready } n ∧
      (bytes.length < 132 →
        takeCell l ⟨.data, b⟩ n = withLane l { laneOf l n with assembly := .assembling (bytes ++ [b]) } n ∧
        takeCell l ⟨.fin, b⟩ n =
          judgeMessage l (bytes ++ [b]) (withLane l { laneOf l n with assembly := .ready } n)) ∧
      (bytes.length = 132 →
        takeCell l ⟨.data, b⟩ n =
          withLane l { laneOf l n with assembly := .skipping } { n with events := n.events ||| 0x4#13 } ∧
        takeCell l ⟨.fin, b⟩ n =
          withLane l { laneOf l n with assembly := .ready } { n with events := n.events ||| 0x4#13 })) ∧
    ((laneOf l n).assembly = .skipping →
      takeCell l ⟨.data, b⟩ n = n ∧
      ∀ mk : Marker, mk ≠ .data → takeCell l ⟨mk, b⟩ n = withLane l { laneOf l n with assembly := .ready } n)

/-- R153, R161: the judgement of a message at its END cell, the first step that fails deciding: length, check,
destination, room; a message that passes every step joins its lane's queue at the tail. SET_OVERRUN is flag 0,
LIVE_OVERRUN 1, MALFORMED 2 and CHECK_FAIL 3. -/
def Obligations.MessageIsJudgedStepByStep : Prop :=
  ∀ (l : LaneId) (bytes : List Byte) (n : Node),
    (∀ (front : List Byte) (b : Byte), bytes = front ++ [b] → bytes.length ≤ 132 →
      ((laneOf l n).assembly = .ready ∧ front = [] → takeCell l ⟨.fin, b⟩ n = judgeMessage l bytes n) ∧
      ((laneOf l n).assembly = .assembling front → takeCell l ⟨.fin, b⟩ n =
        judgeMessage l bytes (withLane l { laneOf l n with assembly := .ready } n))) ∧
    (bytes.length < 4 ∨ bytes.length ≠ (bytes.getD 3 0).toNat + 5 → bytes.length ≤ 132 →
      judgeMessage l bytes n = { n with events := n.events ||| 0x4#13 }) ∧
    (4 ≤ bytes.length → bytes.length ≤ 132 → bytes.length = (bytes.getD 3 0).toNat + 5 →
      (bytes.foldl (fun a b => a + b.toNat) 0 % 256 ≠ 0 →
        judgeMessage l bytes n = { n with events := n.events ||| 0x8#13 }) ∧
      (bytes.foldl (fun a b => a + b.toNat) 0 % 256 = 0 →
        ∀ m : Message, m = {
            dest := (bytes.getD 0 0).extractLsb' 4 4, origin := (bytes.getD 0 0).extractLsb' 0 4
            kind := bytes.getD 1 0, tag := bytes.getD 2 0, payload := (bytes.drop 4).dropLast } →
          (m.dest ≠ addressNibble n → m.dest ≠ 0xF → judgeMessage l bytes n = n) ∧
          (m.dest = addressNibble n ∨ m.dest = 0xF →
            ((laneOf l n).queue.length < laneCapacity l →
              judgeMessage l bytes n =
                withLane l { laneOf l n with queue := (laneOf l n).queue ++ [m] } n) ∧
            (laneCapacity l ≤ (laneOf l n).queue.length →
              judgeMessage l bytes n =
                { n with events := n.events ||| (if l = .setting then 0x1#13 else 0x2#13) }))))

/-- R150, R152, R153: the cells of a well-formed message to this node, DATA for each byte and END for the last, put
the message whole at the tail of its lane's queue and leave the record READY, whatever its payload. -/
def Obligations.MessageAssemblesFromItsCells : Prop :=
  ∀ (l : LaneId) (m : Message) (n : Node), m.payload.length ≤ 127 → (laneOf l n).assembly = .ready →
    m.dest = addressNibble n ∨ m.dest = 0xF → (laneOf l n).queue.length < laneCapacity l →
    takeCell l ⟨.fin, (messageBytes m).getLastD 0⟩
        ((messageBytes m).dropLast.foldl (fun x b => takeCell l ⟨.data, b⟩ x) n) =
      withLane l { assembly := .ready, queue := (laneOf l n).queue ++ [m] } n

/-- R153 to R155: a message command that arrives where the executor does not take its lane at once, since no boundary
stands for it or a message waits before it, joins its lane's queue, or is lost with the lane's overrun flag where the
queue is full; a message to another node leaves no trace, and outside service none is received (log entry 5). -/
def Obligations.MessagesWaitInTheirQueue : Prop :=
  ∀ (n : Node) (q : List Instr) (k : Kind) (h : MsgHeader) (payload : List Byte), payload.length ≤ 127 →
    (inService n.control.node = false → exec (messageCommand k h payload) ⟨n, q⟩ = .next ⟨n, q⟩) ∧
    (h.dest ≠ addressNibble n → h.dest ≠ 0xF →
      exec (messageCommand k h payload) ⟨n, q⟩ = .next ⟨n, q⟩) ∧
    (inService n.control.node = true → h.dest = addressNibble n ∨ h.dest = 0xF →
      laneDue (kindLane k) n = false ∨ (laneOf (kindLane k) n).queue ≠ [] →
      ((laneOf (kindLane k) n).queue.length < laneCapacity (kindLane k) →
        exec (messageCommand k h payload) ⟨n, q⟩ = .next ⟨withLane (kindLane k)
          { laneOf (kindLane k) n with queue := (laneOf (kindLane k) n).queue ++
            [{ dest := h.dest, origin := h.origin, kind := kindCode k, tag := h.tag, payload := payload }] } n, q⟩) ∧
      (laneCapacity (kindLane k) ≤ (laneOf (kindLane k) n).queue.length →
        exec (messageCommand k h payload) ⟨n, q⟩ =
          .next ⟨{ n with events := n.events ||| (if kindLane k = .setting then 0x1#13 else 0x2#13) }, q⟩))

/-- R155 to R157: the take of a lane at a boundary, as the work that is left: the head of its queue leaves and is
performed, in HALTED, QUIET and ACTIVE; a message of no kind, or of a kind of the other lane, is discarded with
BAD_REQUEST (R156); a read that finds four replies stays with all behind it and sets no flag, and in STARTING and FAULT
nothing is taken. -/
def Obligations.LaneTakesItsHead : Prop :=
  ∀ (n : Node) (q : List Instr) (l : LaneId) (w : Work),
    (l = .live ∧ w = .liveTake ∨ l = .setting ∧ w = .settingTake) → n.boundary = [w] →
    (n.control.node = .starting ∨ n.control.node = .fault ∨ (laneOf l n).queue = [] →
      exec .blockBoundary ⟨n, q⟩ = .next ⟨{ n with boundary := [], choice := n.choice + 1 }, q⟩) ∧
    (∀ (m : Message) (rest : List Message),
      n.control.node = .halted ∨ n.control.node = .quiet ∨ n.control.node = .active →
      (laneOf l n).queue = m :: rest →
      (l = .setting ∧ (m.kind.toNat < 0x10 ∨ 0x13 < m.kind.toNat) ∨
          l = .live ∧ (m.kind.toNat < 0x20 ∨ 0x28 < m.kind.toNat) →
        exec .blockBoundary ⟨n, q⟩ = .next ⟨withLane l { laneOf l n with queue := rest }
          { n with boundary := [], choice := n.choice + 1, events := n.events ||| 0x10#13 }, q⟩) ∧
      (∀ k : Kind, isRead k = true → requestKind l m = some k → n.replies.length = 4 →
        exec .blockBoundary ⟨n, q⟩ = .next ⟨{ n with boundary := [], choice := n.choice + 1 }, q⟩) ∧
      ((∀ k : Kind, isRead k = true → requestKind l m = some k → n.replies.length < 4) →
        exec .blockBoundary ⟨n, q⟩ = .next ⟨perform l m
          (withLane l { laneOf l n with queue := rest } { n with boundary := [], choice := n.choice + 1 }), q⟩))

/-- R156: a message command whose payload has not the length of its kind, or a read addressed to broadcast, arrives at
its boundary as a bad request: it is discarded with BAD_REQUEST and has no other effect than the take of its lane. -/
def Obligations.BadRequestsAreDiscarded : Prop :=
  ∀ (n : Node) (q : List Instr) (k : Kind) (h : MsgHeader) (payload : List Byte), payload.length ≤ 127 →
    arrivesAtBoundary k h n →
    ((k = .tableWrite ∧ payload.length < 5) ∨
      (k ≠ .tableWrite ∧ payload.length ≠ (match k with
        | .tableWrite => 5 | .tableRead => 5 | .eqSelect => 5 | .identRead => 0 | .level => 4 | .programTrim => 4
        | .balanceFade => 3 | .mute => 5 | .speed => 3 | .cabin => 1 | .presence => 2 | .rampControl => 3
        | .statusRead => 4)) ∨
      (h.dest = 0xF ∧ (k = .tableRead ∨ k = .identRead ∨ k = .statusRead))) →
    exec (messageCommand k h payload) ⟨n, q⟩ =
      .next ⟨{ lanesTaken (kindLane k) n with events := n.events ||| 0x10#13 }, q⟩

/-! ### The messages of the live lane -/

/-- R31 to R34: LEVEL takes an index, at most 63, with the volume table's entry, or a code clamped to -960..0 with
index 255, into each zone its mask names; PROGRAM_TRIM sets the trim of one program in one zone, clamped to -480..0;
BALANCE_FADE sets one zone's balance and fade, each clamped to -32..32; MUTE sets the mute of the zones or of the
speakers its mask names. Another form or setting, or a zone or program above 3, refuses the message. -/
def Obligations.LevelTrimBalanceAndMuteSetTheirState : Prop :=
  (∀ (n : Node) (q : List Instr) (h : MsgHeader) (mask form hi lo : Byte), arrivesAtBoundary .level h n →
     (form = 0 → exec (.level h [mask, form, hi, lo]) ⟨n, q⟩ = .next ⟨{ lanesTaken .live n with
       live := { n.live with
       zones := .ofFn fun z =>
         if mask.toNat.testBit z.val then
           { n.live.zones[z] with
             volumeIndex := min 63 (256 * hi.toNat + lo.toNat)
             volumeCode := n.tables.volume.toList.getD (min 63 (256 * hi.toNat + lo.toNat)) 0 }
         else n.live.zones[z] } }, q⟩) ∧
     (form = 1 → exec (.level h [mask, form, hi, lo]) ⟨n, q⟩ = .next ⟨{ lanesTaken .live n with
       live := { n.live with
       zones := .ofFn fun z =>
         if mask.toNat.testBit z.val then
           { n.live.zones[z] with volumeIndex := 255, volumeCode := max (-960) (min 0 (hi ++ lo).toInt) }
         else n.live.zones[z] } }, q⟩) ∧
     (form ≠ 0 → form ≠ 1 → exec (.level h [mask, form, hi, lo]) ⟨n, q⟩ =
       .next ⟨{ lanesTaken .live n with events := n.events ||| 0x20#13 }, q⟩)) ∧
  (∀ (n : Node) (q : List Instr) (h : MsgHeader) (z : Fin 4),
     (arrivesAtBoundary .programTrim h n → ∀ (p : Fin 4) (zone program hi lo : Byte),
       (zone.toNat = z.val → program.toNat = p.val →
         exec (.programTrim h [zone, program, hi, lo]) ⟨n, q⟩ = .next ⟨{ lanesTaken .live n with
           live := { n.live with
           zones := .ofFn fun y =>
             if y = z then
               { n.live.zones[y] with
               trims := .ofFn fun r =>
                 if r = p then max (-480) (min 0 (hi ++ lo).toInt) else n.live.zones[y].trims[r] }
             else n.live.zones[y] } }, q⟩) ∧
       (3 < zone.toNat ∨ 3 < program.toNat → exec (.programTrim h [zone, program, hi, lo]) ⟨n, q⟩ =
         .next ⟨{ lanesTaken .live n with events := n.events ||| 0x20#13 }, q⟩)) ∧
     (arrivesAtBoundary .balanceFade h n → ∀ zone balance fade : Byte,
       (zone.toNat = z.val → exec (.balanceFade h [zone, balance, fade]) ⟨n, q⟩ = .next ⟨{ lanesTaken .live n with
         live := { n.live with
         zones := .ofFn fun y =>
           if y = z then
             { n.live.zones[y] with
               balance := max (-32) (min 32 balance.toInt), fade := max (-32) (min 32 fade.toInt) }
           else n.live.zones[y] } }, q⟩) ∧
       (3 < zone.toNat → exec (.balanceFade h [zone, balance, fade]) ⟨n, q⟩ =
         .next ⟨{ lanesTaken .live n with events := n.events ||| 0x20#13 }, q⟩))) ∧
  (∀ (n : Node) (q : List Instr) (h : MsgHeader) (form m2 m1 m0 setting : Byte) (mask : Nat),
     arrivesAtBoundary .mute h n → mask = 65536 * m2.toNat + 256 * m1.toNat + m0.toNat →
     (form = 0 → setting = 0 ∨ setting = 1 → exec (.mute h [form, m2, m1, m0, setting]) ⟨n, q⟩ =
       .next ⟨{ lanesTaken .live n with live := { n.live with
       zones := .ofFn fun z =>
         if mask.testBit z.val then { n.live.zones[z] with mute := setting == 1 } else n.live.zones[z] } }, q⟩) ∧
     (form = 1 → setting = 0 ∨ setting = 1 → exec (.mute h [form, m2, m1, m0, setting]) ⟨n, q⟩ =
       .next ⟨{ lanesTaken .live n with live := { n.live with
       mutes := .ofFn fun k =>
         if mask.testBit k.val then setting == 1 else n.live.mutes[k] } }, q⟩) ∧
     (1 < form.toNat ∨ 1 < setting.toNat → exec (.mute h [form, m2, m1, m0, setting]) ⟨n, q⟩ =
       .next ⟨{ lanesTaken .live n with events := n.events ||| 0x20#13 }, q⟩))

/-- R50 to R52, R64, R65: a SPEED report clamps its code to 0..1200 and records it. A valid one moves the smoothed
speed, makes the tracker LIVE and evaluates the band from the new speed. A band that changes sets BAND_CHANGE and issues
a desired-set request for each enabled band-linked speaker, in speaker index order; one that does not changes nothing
but the tracker. An invalid one sets SPEED_STALE and makes LIVE STALE; another quality is refused. -/
def Obligations.SpeedReportsMoveTheTracker : Prop :=
  ∀ (n : Node) (q : List Instr) (h : MsgHeader) (hi lo quality : Byte) (raw : Nat), arrivesAtBoundary .speed h n →
    raw = min 1200 (256 * hi.toNat + lo.toNat) →
    (quality = 1 → ∀ (s : Nat) (b : Fin 4) (theta : Nat → Nat) (t : Tracker),
      theta 1 = n.tables.settings.theta1 → theta 2 = n.tables.settings.theta2 → theta 3 = n.tables.settings.theta3 →
      (n.tracker.state = .none ∨ n.tracker.state = .failed → s = raw) →
      (n.tracker.state = .live ∨ n.tracker.state = .stale → (s : Int) = max 0 (n.tracker.speed +
        (((raw : Int) - n.tracker.speed) * n.tables.settings.weight).tdiv 16)) →
      ((n.tracker.band < b ∧ theta b.val ≤ s ∧ ∀ i, b.val < i → i ≤ 3 → s < theta i) ∨
        ((∀ i, n.tracker.band.val < i → i ≤ 3 → s < theta i) ∧ b ≤ n.tracker.band ∧
          (b = 0 ∨ (theta b.val : Int) - n.tables.settings.bandHysteresis ≤ s) ∧
          ∀ i, b.val < i → i ≤ n.tracker.band.val →
            (s : Int) < (theta i : Int) - n.tables.settings.bandHysteresis)) →
      t = { n.tracker with state := .live, speed := s, raw := raw, stale := 0, fail := 0, band := b } →
      (b = n.tracker.band → exec (.speed h [hi, lo, quality]) ⟨n, q⟩ =
        .next ⟨{ lanesTaken .live n with tracker := t }, q⟩) ∧
      (b ≠ n.tracker.band → exec (.speed h [hi, lo, quality]) ⟨n, q⟩ =
        .next ⟨(List.finRange 24).foldl
          (fun x k => if n.tables.speakers[k].enabled ∧ n.tables.speakers[k].bandLinked then request k x else x)
          { lanesTaken .live n with tracker := t, events := n.events ||| 0x100#13 }, q⟩)) ∧
    (quality = 0 → exec (.speed h [hi, lo, quality]) ⟨n, q⟩ = .next ⟨{ lanesTaken .live n with
      events := n.events ||| 0x40#13
      tracker := { n.tracker with
        raw := raw
        state := if n.tracker.state = .live then .stale else n.tracker.state
        fail := if n.tracker.state = .live then 0 else n.tracker.fail } }, q⟩) ∧
    (1 < quality.toNat → exec (.speed h [hi, lo, quality]) ⟨n, q⟩ =
      .next ⟨{ lanesTaken .live n with events := n.events ||| 0x20#13 }, q⟩)

/-- R55, R13: CABIN replaces the four cabin flags and is never refused. PRESENCE sets the mode of the programs its mask
names: a mode that changes makes the program present for ON and absent otherwise, with quiet count 0; another mode is
refused. -/
def Obligations.CabinAndPresenceSetTheirState : Prop :=
  ∀ (n : Node) (q : List Instr) (h : MsgHeader),
    (arrivesAtBoundary .cabin h n → ∀ flags : Byte, exec (.cabin h [flags]) ⟨n, q⟩ =
      .next ⟨{ lanesTaken .live n with tracker := { n.tracker with cabin := flags.extractLsb' 0 4 } }, q⟩) ∧
    (arrivesAtBoundary .presence h n → ∀ mask mode : Byte,
      (∀ m : PresenceMode, (mode = 0 ∧ m = .off) ∨ (mode = 1 ∧ m = .on) ∨ (mode = 2 ∧ m = .auto) →
        exec (.presence h [mask, mode]) ⟨n, q⟩ = .next ⟨{ lanesTaken .live n with
          detectors := .ofFn fun p =>
            if mask.toNat.testBit p.val ∧ n.detectors[p].mode ≠ m then
              { mode := m, present := m == .on, quiet := 0, peak := n.detectors[p].peak }
            else n.detectors[p] }, q⟩) ∧
      (2 < mode.toNat → exec (.presence h [mask, mode]) ⟨n, q⟩ =
        .next ⟨{ lanesTaken .live n with events := n.events ||| 0x20#13 }, q⟩))

/-- R105: RAMP_CONTROL gives each unit its mask names the mode; an index ends the open segment and is taken, RUN, ONCE
and STEP clear the done flag, and a RUN that starts from index 0 reloads the remaining loops. A mode above 3, a mask
bit above 5 or an index above 16 that is not none refuses the message. Units started by one message enter their first
segments at the same boundary: a message that finds the steps of its units parted waits (log entry 5), and whatever
order a boundary takes, its units have all entered or none has. -/
def Obligations.RampControlSetsUnits : Prop :=
  (∀ (n : Node) (q : List Instr) (h : MsgHeader) (mask mode index : Byte), arrivesAtBoundary .rampControl h n →
    ((∀ u v : Fin 6, mask.toNat.testBit u.val = true → mask.toNat.testBit v.val = true →
        (.ramp u ∈ n.boundary ↔ .ramp v ∈ n.boundary)) →
      (∀ m : RampMode, (mode = 0 ∧ m = .hold) ∨ (mode = 1 ∧ m = .step) ∨ (mode = 2 ∧ m = .run) ∨
          (mode = 3 ∧ m = .once) → mask.toNat < 64 → index.toNat ≤ 16 ∨ index = 0xFF →
        ∃ t : Node, exec (.rampControl h [mask, mode, index]) ⟨n, q⟩ = .next ⟨t, q⟩ ∧
          t = { lanesTaken .live n with ramps := t.ramps } ∧
          ∀ u : Fin 6,
            (mask.toNat.testBit u.val = false → t.ramps[u] = n.ramps[u]) ∧
            (mask.toNat.testBit u.val = true →
              t.ramps[u].mode = m ∧ t.ramps[u].output = n.ramps[u].output ∧
              t.ramps[u].done = (if m = .hold then n.ramps[u].done else false) ∧
              (index = 0xFF → t.ramps[u].index = n.ramps[u].index ∧ t.ramps[u].segment = n.ramps[u].segment) ∧
              (index ≠ 0xFF → t.ramps[u].index = index.toNat ∧ t.ramps[u].segment = none) ∧
              (m = .run ∧ (index = 0 ∨ index = 0xFF ∧ n.ramps[u].index = 0 ∧ n.ramps[u].segment = none) →
                t.ramps[u].loops = (if n.tables.ramps[u].loopCount = 0xFF then .endless
                  else .count n.tables.ramps[u].loopCount.toNat)) ∧
              (m ≠ .run ∨ index ≠ 0 ∧ (index ≠ 0xFF ∨ n.ramps[u].index ≠ 0 ∨ n.ramps[u].segment ≠ none) →
                t.ramps[u].loops = n.ramps[u].loops))) ∧
      (3 < mode.toNat ∨ 63 < mask.toNat ∨ (16 < index.toNat ∧ index ≠ 0xFF) →
        exec (.rampControl h [mask, mode, index]) ⟨n, q⟩ =
          .next ⟨{ lanesTaken .live n with events := n.events ||| 0x20#13 }, q⟩)) ∧
    (∀ u v : Fin 6, mask.toNat.testBit u.val = true → mask.toNat.testBit v.val = true →
      .ramp u ∈ n.boundary → .ramp v ∉ n.boundary →
      exec (.rampControl h [mask, mode, index]) ⟨n, q⟩ = .next ⟨{ n with liveLane := { n.liveLane with
        queue := [{ dest := h.dest, origin := h.origin, kind := 0x27, tag := h.tag,
                    payload := [mask, mode, index] }] } }, q⟩)) ∧
  (∀ (n m : Node) (q : List Instr) (r : Message) (mask : Byte) (u v : Fin 6) (first : Fin 6 → Segment),
    n.control.node = .halted ∨ n.control.node = .quiet ∨ n.control.node = .active → n.boundary = allWorks →
    n.settingLane.queue = [] → n.liveLane.queue = [r] → r.kind = 0x27 → r.payload = [mask, 2, 0] → mask.toNat < 64 →
    mask.toNat.testBit u.val = true → mask.toNat.testBit v.val = true →
    (∀ w : Fin 6, mask.toNat.testBit w.val = true →
      n.tables.ramps[w].segments[0]? = some (first w) ∧ 1 ≤ (first w).duration) →
    exec .blockBoundary ⟨n, q⟩ = .next ⟨m, q⟩ →
    (m.ramps[u].segment = none ↔ m.ramps[v].segment = none) ∧
    (m.ramps[u].segment ≠ none → ∃ start : Int, m.ramps[u].segment =
      some { start := start, target := (first u).target, duration := (first u).duration, position := 1 }))

/-- R163, R165, R172, R96: STATUS_READ posts its reply, with the flags as they stood before and the record of the view
byte by byte, and then clears the flags its mask names; a SPEAKER view clears that speaker's clip count; a selector out
of range or of no view clears nothing. -/
def Obligations.StatusReadRepliesThenClears : Prop :=
  ∀ (n : Node) (q : List Instr) (h : MsgHeader) (hi lo kind number : Byte) (opening : List Byte),
    arrivesAtBoundary .statusRead h n → h.dest ≠ 0xF → n.replies.length < 4 →
    opening = [0, BitVec.ofNat 8 (n.events.toNat / 256), BitVec.ofNat 8 n.events.toNat, kind, number] →
    (∀ (a : BitVec 3) (node code speed : Byte), kind = 0 → n.link.address = some a →
      (n.control.node = .halted ∧ node = 1 ∨ n.control.node = .quiet ∧ node = 2 ∨ n.control.node = .active ∧ node = 3) →
      (n.link.accepted = .run ∧ code = 1 ∨ n.link.accepted = .quiet ∧ code = 2 ∨ n.link.accepted = .halt ∧ code = 3 ∨
        n.link.accepted = .clear ∧ code = 4) →
      (n.tracker.state = .none ∧ speed = 0 ∨ n.tracker.state = .live ∧ speed = 1 ∨
        n.tracker.state = .stale ∧ speed = 2 ∨ n.tracker.state = .failed ∧ speed = 3) →
      exec (.statusRead h [hi, lo, kind, number]) ⟨n, q⟩ = .next ⟨{ lanesTaken .live n with
        events := n.events &&& ~~~((hi ++ lo).truncate 13)
        replies := n.replies ++ [replyTo .statusRead h (opening ++ [node, code, a.zeroExtend 8, speed] ++
          word16 (BitVec.ofNat 16 n.tracker.speed) ++ word16 (BitVec.ofNat 16 n.tracker.raw) ++
          [indexCode n.tracker.band, n.tracker.cabin.zeroExtend 8,
            BitVec.ofNat 8 (n.eq.slots.toList.countP (·.isSome)), BitVec.ofNat 8 n.eq.waiting.length] ++
          n.ramps.toList.map fun u => modeCode u.mode + if u.done then 128 else 0) n] }, q⟩) ∧
    (∀ (z : Fin 4) (lift : Int) (duck : Fin 4 → Int), kind = 1 → number.toNat = z.val →
      lift = min (n.tracker.zones[z].smoothed : Int) (max 0 (n.tables.zones[z].ceiling - n.live.zones[z].volumeCode)) →
      (∀ p : Fin 4, duck p ≤ 0 ∧
        (∀ r : Fin 4, r ≠ p → n.detectors[r].present = true → duck p ≤ n.tables.duck[duckIndex z r p]) ∧
        (duck p = 0 ∨ ∃ r : Fin 4, r ≠ p ∧ n.detectors[r].present = true ∧
          duck p = n.tables.duck[duckIndex z r p])) →
      exec (.statusRead h [hi, lo, kind, number]) ⟨n, q⟩ = .next ⟨{ lanesTaken .live n with
        events := n.events &&& ~~~((hi ++ lo).truncate 13)
        replies := n.replies ++ [replyTo .statusRead h (opening ++
          [BitVec.ofNat 8 n.live.zones[z].volumeIndex] ++ word16 (BitVec.ofInt 16 n.live.zones[z].volumeCode) ++
          [BitVec.ofInt 8 n.live.zones[z].balance, BitVec.ofInt 8 n.live.zones[z].fade,
            flagCode n.live.zones[z].mute, BitVec.ofNat 8 n.tracker.zones[z].target, BitVec.ofInt 8 lift,
            BitVec.ofNat 8 n.tracker.zones[z].bass] ++
          word16 (BitVec.ofInt 16 n.guards[z].code) ++
          ((List.finRange 4).flatMap fun p => word16 (BitVec.ofInt 16 n.levels.pairs[pairIndex z p].applied)) ++
          ((List.finRange 4).flatMap fun p => word16 (BitVec.ofInt 16 (duck p))) ++
          [BitVec.ofNat 8 ((List.finRange 4).map fun p => if n.detectors[p].present then 2 ^ p.val else 0).sum]) n] },
        q⟩) ∧
    (∀ (k : Fin 24) (target pending : Option SetRef), kind = 2 → number.toNat = k.val →
      (n.eq.records[k].phase = .idle ∧ target = none ∧ pending = none ∨
        (∃ w, n.eq.records[k].phase = .waiting w ∧ target = some w ∧ pending = none) ∨
        ∃ t, n.eq.records[k].phase = .fading t pending ∧ target = some t) →
      exec (.statusRead h [hi, lo, kind, number]) ⟨n, q⟩ = .next ⟨{ lanesTaken .live n with
        events := n.events &&& ~~~((hi ++ lo).truncate 13)
        levels := { n.levels with
        clips := .ofFn fun j =>
          if j = k then { n.levels.clips[k] with count := 0 } else n.levels.clips[j] }
        replies := n.replies ++ [replyTo .statusRead h (opening ++
          word16 (BitVec.ofInt 16 n.levels.speakers[k].applied) ++
          word16 (BitVec.ofInt 16 n.levels.speakers[k].effective) ++
          [flagCode n.live.mutes[k], setCode n.eq.records[k].current, viewCode target, viewCode pending,
            BitVec.ofNat 8 (if k ∈ n.eq.waiting then n.eq.waiting.idxOf k + 1 else 0),
            BitVec.ofNat 8 n.levels.clips[k].count]) n] }, q⟩) ∧
    ((kind = 1 ∧ 3 < number.toNat) ∨ (kind = 2 ∧ 23 < number.toNat) ∨ 2 < kind.toNat →
      exec (.statusRead h [hi, lo, kind, number]) ⟨n, q⟩ = .next ⟨{ lanesTaken .live n with
        replies := n.replies ++ [replyTo .statusRead h
          [if 2 < kind.toNat then 3 else 2, BitVec.ofNat 8 (n.events.toNat / 256), BitVec.ofNat 8 n.events.toNat]
          n] }, q⟩)

/-! ### The messages of the setting lane -/

/-- R160, R165, R172: IDENT_READ posts the identity of the part and changes no other state. -/
def Obligations.IdentReadNamesThePart : Prop :=
  ∀ (n : Node) (q : List Instr) (h : MsgHeader), arrivesAtBoundary .identRead h n → h.dest ≠ 0xF →
    n.replies.length < 4 →
    exec (.identRead h []) ⟨n, q⟩ = .next ⟨{ lanesTaken .setting n with
      replies := n.replies ++ [replyTo .identRead h
        [0x00, 0x4B, 0x48, 0x12, 0xD0, 1, 12, 24, 4, 4, 48, 6, 8] n] }, q⟩

/-- R159, R165, R172, R173, R174: TABLE_READ posts UNKNOWN_TABLE, OUT_OF_RANGE, or DONE with the whole elements that
fit in 121 bytes, from the first index, stopping at the count wanted and at the table's end, each as the bytes of the
field groups that the mask selects; it changes no other state. That the mask goes back with its bits above the last
group as received is the model's choice (log entry 36). -/
def Obligations.TableReadReturnsWholeElements : Prop :=
  ∀ (n : Node) (q : List Instr) (h : MsgHeader) (id first count hi lo : Byte), arrivesAtBoundary .tableRead h n →
    h.dest ≠ 0xF → n.replies.length < 4 →
    ∃ reply : List Byte, exec (.tableRead h [id, first, count, hi, lo]) ⟨n, q⟩ = .next ⟨{ lanesTaken .setting n with
        replies := n.replies ++ [replyTo .tableRead h reply n] }, q⟩ ∧
      (id = 0 ∨ 13 < id.toNat → reply = [1, id, first, 0, hi, lo]) ∧
      ∀ (size : Nat) (groups : Nat → List (List Byte)),
        (id = 1 ∧ size = 12 ∧ (∀ j : Fin 12, groups j.val =
            [[flagCode n.tables.sources[j].enabled], [indexCode n.tables.sources[j].slot],
              [indexCode n.tables.sources[j].program]]) ∨
          id = 2 ∧ size = 24 ∧ (∀ j : Fin 24, ∀ r : Speaker, r = n.tables.speakers[j] → groups j.val =
            [[flagCode r.enabled], [indexCode r.slot], [indexCode r.zone], [sideCode r.side], [endCode r.along],
              word16 (BitVec.ofInt 16 r.trim), [optCode r.ramp], word16 r.alpha, [flagCode r.bandLinked],
              counted (r.bandSets.toList.map fun s => [setCode s]),
              counted (r.taps.map fun t => indexCode t.source :: word16 t.weight)]) ∨
          id = 3 ∧ size = 4 ∧ (∀ j : Fin 4, ∀ r : Zone, r = n.tables.zones[j] → groups j.val =
            [word16 (BitVec.ofInt 16 r.ceiling), [BitVec.ofNat 8 r.downSlew], [BitVec.ofNat 8 r.upSlew],
              [BitVec.ofNat 8 r.speakerSlew], [indexCode r.curve], [flagCode r.guardOn], [BitVec.ofNat 8 r.attack],
              word16 (BitVec.ofInt 16 r.floor), word16 (BitVec.ofNat 16 r.hold), [BitVec.ofNat 8 r.recover]]) ∨
          id = 4 ∧ size = 16 ∧ (∀ j : Fin 16, groups j.val =
            [[flagCode n.tables.pairs[j].follow], [optCode n.tables.pairs[j].ramp]]) ∨
          id = 5 ∧ size = 64 ∧ (∀ j : Fin 64, groups j.val = [word16 (BitVec.ofInt 16 n.tables.duck[j])]) ∨
          id = 6 ∧ size = 4 ∧ (∀ j : Fin 4, groups j.val =
            [word24 (BitVec.ofNat 24 n.tables.presence[j].threshold),
              word16 (BitVec.ofNat 16 n.tables.presence[j].hold)]) ∨
          id = 7 ∧ size = 64 ∧ (∀ j : Fin 64, groups j.val = [word16 (BitVec.ofInt 16 n.tables.volume[j])]) ∨
          id = 8 ∧ size = 33 ∧ (∀ j : Fin 33, groups j.val = [word16 (BitVec.ofInt 16 n.tables.balance[j])]) ∨
          id = 9 ∧ size = 1 ∧ (∀ r : SpeedSettings, r = n.tables.settings → groups 0 =
            [[BitVec.ofNat 8 r.weight], word16 (BitVec.ofNat 16 r.staleTime), word16 (BitVec.ofNat 16 r.failTime),
              [BitVec.ofNat 8 r.attack], [BitVec.ofNat 8 r.release], [BitVec.ofNat 8 r.hysteresis],
              word16 (BitVec.ofNat 16 r.theta1), word16 (BitVec.ofNat 16 r.theta2),
              word16 (BitVec.ofNat 16 r.theta3), [BitVec.ofNat 8 r.bandHysteresis]]) ∨
          id = 10 ∧ size = 4 ∧ (∀ j : Fin 4, groups j.val =
            [counted (n.tables.curves[j].points.map fun p =>
                word16 (BitVec.ofNat 16 p.speed) ++ [BitVec.ofNat 8 p.lift, BitVec.ofNat 8 p.bass]),
              n.tables.curves[j].offsets.toList.map fun x => BitVec.ofNat 8 x]) ∨
          id = 11 ∧ size = 48 ∧ (∀ j : Fin 48, groups j.val =
            [counted (n.tables.eqSets[j].map fun s =>
              word24 s.b0 ++ word24 s.b1 ++ word24 s.b2 ++ word24 s.a1 ++ word24 s.a2)]) ∨
          id = 12 ∧ size = 1 ∧ groups 0 = [word16 (BitVec.ofNat 16 n.tables.nodeEntry.crossfadeLength),
            word16 (n.tables.nodeEntry.attentionMask.zeroExtend 16)] ∨
          id = 13 ∧ size = 6 ∧ (∀ j : Fin 6, ∀ r : RampList, r = n.tables.ramps[j] → groups j.val =
            [counted (r.segments.map fun s =>
                word16 (BitVec.ofInt 16 s.target) ++ word16 (BitVec.ofNat 16 s.duration)),
              [optCode r.loopStart], [r.loopCount]])) →
        (size ≤ first.toNat → reply = [2, id, first, 0, hi, lo]) ∧
        (first.toNat < size → ∃ elements : List (List Byte),
          reply = [0, id, first, BitVec.ofNat 8 elements.length, hi, lo] ++ elements.flatten ∧
          elements.length ≤ count.toNat ∧ elements.flatten.length ≤ 121 ∧
          (∀ i e, elements[i]? = some e → first.toNat + i < size ∧
            e = selected (256 * hi.toNat + lo.toNat) (groups (first.toNat + i))) ∧
          (elements.length = count.toNat ∨ first.toNat + elements.length = size ∨ 121 < elements.flatten.length +
            (selected (256 * hi.toNat + lo.toNat) (groups (first.toNat + elements.length))).length))

/-- R158, R173, R174: how a TABLE_WRITE goes through its elements. An identifier of no table, an element beyond the
table or one that the payload ends inside writes nothing and sets WRITE_REFUSED; a count of 0 writes nothing, and bytes
beyond the counted elements are ignored with WRITE_REFUSED; otherwise the first element is written alone, and the rest
of the message, one element less from the next index, acts on the node that this leaves, at the same boundary. -/
def Obligations.TableWriteGoesElementByElement : Prop :=
  ∀ (n : Node) (q : List Instr) (h : MsgHeader) (id i count hi lo : Byte) (rest : List Byte),
    arrivesAtBoundary .tableWrite h n → rest.length ≤ 122 →
    (id = 0 ∨ 13 < id.toNat → exec (.tableWrite h ([id, i, count, hi, lo] ++ rest)) ⟨n, q⟩ =
      .next ⟨writeRefused n, q⟩) ∧
    (id ≠ 0 → id.toNat ≤ 13 → exec (.tableWrite h ([id, i, 0, hi, lo] ++ rest)) ⟨n, q⟩ =
      .next ⟨if rest = [] then lanesTaken .setting n else writeRefused n, q⟩) ∧
    ∀ (size : Nat) (shape : List GroupShape),
      (id = 1 ∧ size = 12 ∧ shape = [.fixed 1, .fixed 1, .fixed 1] ∨
        id = 2 ∧ size = 24 ∧ shape = [.fixed 1, .fixed 1, .fixed 1, .fixed 1, .fixed 1, .fixed 2, .fixed 1, .fixed 2,
          .fixed 1, .list 1, .list 3] ∨
        id = 3 ∧ size = 4 ∧ shape = [.fixed 2, .fixed 1, .fixed 1, .fixed 1, .fixed 1, .fixed 1, .fixed 1, .fixed 2,
          .fixed 2, .fixed 1] ∨
        id = 4 ∧ size = 16 ∧ shape = [.fixed 1, .fixed 1] ∨ id = 5 ∧ size = 64 ∧ shape = [.fixed 2] ∨
        id = 6 ∧ size = 4 ∧ shape = [.fixed 3, .fixed 2] ∨ id = 7 ∧ size = 64 ∧ shape = [.fixed 2] ∨
        id = 8 ∧ size = 33 ∧ shape = [.fixed 2] ∨
        id = 9 ∧ size = 1 ∧ shape = [.fixed 1, .fixed 2, .fixed 2, .fixed 1, .fixed 1, .fixed 1, .fixed 2, .fixed 2,
          .fixed 2, .fixed 1] ∨
        id = 10 ∧ size = 4 ∧ shape = [.list 4, .fixed 4] ∨ id = 11 ∧ size = 48 ∧ shape = [.list 15] ∨
        id = 12 ∧ size = 1 ∧ shape = [.fixed 2, .fixed 2] ∨
        id = 13 ∧ size = 6 ∧ shape = [.list 4, .fixed 1, .fixed 1]) →
      (size ≤ i.toNat → count ≠ 0 → exec (.tableWrite h ([id, i, count, hi, lo] ++ rest)) ⟨n, q⟩ =
        .next ⟨writeRefused n, q⟩) ∧
      ∀ (groups : List (List Byte)) (element : List Byte),
        List.Forall₂ shapeFits shape groups → element = selected (256 * hi.toNat + lo.toNat) groups →
        (rest <+: element → rest ≠ element → count ≠ 0 →
          exec (.tableWrite h ([id, i, count, hi, lo] ++ rest)) ⟨n, q⟩ = .next ⟨writeRefused n, q⟩) ∧
        ((element ++ rest).length ≤ 122 → i ≠ 0xFF → count ≠ 0xFF →
          ∃ m : Node, exec (.tableWrite h ([id, i, 1, hi, lo] ++ element)) ⟨n, q⟩ = .next ⟨m, q⟩ ∧
            exec (.tableWrite h ([id, i, count + 1, hi, lo] ++ element ++ rest)) ⟨n, q⟩ =
              exec (.tableWrite h ([id, i + 1, count, hi, lo] ++ rest)) ⟨{ m with boundary := n.boundary }, q⟩)

/-- R158, R5, R27 to R29, R74, R75, R89, R90, R95, R170, R173: TABLE_WRITE of one speaker element, under every field
mask. An illegal value, a list of the wrong length or an output slot of another enabled speaker refuses it. A shelf alpha
of 0 makes the shelf state 0. A write that enables the speaker begins it on its desired set and shelf gain 2^22 (held as
log entry 19 says); one that disables it ends its gain (the effective code too, log entry 11), clip marks, chains and
shelf state, settles its EQ record on its last desired set, and its place in the wait queue or its crossfade slot passes
on; any other issues a request when the mask selects band-linked or band sets. -/
def Obligations.TableWriteWritesSpeakers : Prop :=
  ∀ (n : Node) (q : List Instr) (h : MsgHeader) (i hi lo : Byte) (m : Nat → Bool) (k : Fin 24) (old : Speaker)
    (enabled slot zone side along trimHi trimLo ramp alphaHi alphaLo linked : Byte) (sets : List Byte)
    (taps : List (Byte × BitVec 16)) (groups : List (List Byte)) (c : Instr) (reads : Speaker → Prop),
    arrivesAtBoundary .tableWrite h n → (∀ g, m g = (256 * hi.toNat + lo.toNat).testBit g) →
    i.toNat = k.val → old = n.tables.speakers[k] →
    groups = [[enabled], [slot], [zone], [side], [along], [trimHi, trimLo], [ramp], [alphaHi, alphaLo], [linked],
      counted (sets.map fun s => [s]), counted (taps.map fun t => t.1 :: word16 t.2)] →
    (selected (256 * hi.toNat + lo.toNat) groups).length ≤ 122 → c = writeOne h 2 i hi lo groups →
    (∀ r, reads r ↔
      (if m 0 then enabled = flagCode r.enabled else r.enabled = old.enabled) ∧
      (if m 1 then slot = indexCode r.slot else r.slot = old.slot) ∧
      (if m 2 then zone = indexCode r.zone else r.zone = old.zone) ∧
      (if m 3 then side = sideCode r.side else r.side = old.side) ∧
      (if m 4 then along = endCode r.along else r.along = old.along) ∧
      r.trim = (if m 5 then max (-480) (min 96 (trimHi ++ trimLo).toInt) else old.trim) ∧
      (if m 6 then ramp = optCode r.ramp else r.ramp = old.ramp) ∧
      r.alpha = (if m 7 then alphaHi ++ alphaLo else old.alpha) ∧
      (if m 8 then linked = flagCode r.bandLinked else r.bandLinked = old.bandLinked) ∧
      (if m 9 then sets = r.bandSets.toList.map setCode else r.bandSets = old.bandSets) ∧
      (if m 10 then taps.length ≤ 4 ∧ taps = r.taps.map (fun t => (indexCode t.source, t.weight))
        else r.taps = old.taps) ∧
      (r.enabled = true → ∀ j : Fin 24, j ≠ k → n.tables.speakers[j].enabled = true →
        n.tables.speakers[j].slot ≠ r.slot)) →
    ((∀ r, ¬reads r) → exec c ⟨n, q⟩ = .next ⟨writeRefused n, q⟩) ∧
    ∀ (r : Speaker) (x : Node) (desired : SetRef), reads r →
      desired = r.bandSets[if r.bandLinked then n.tracker.band else 0] →
      x = { lanesTaken .setting n with
        tables := { n.tables with
          speakers := .ofFn fun j => if j = k then r else n.tables.speakers[j] }
        eq := { n.eq with
          records := .ofFn fun j =>
            if j = k ∧ r.alpha = 0 then { n.eq.records[j] with lp := 0 } else n.eq.records[j] } } →
      (r.enabled = old.enabled → exec c ⟨n, q⟩ = .next ⟨if m 8 || m 9 then request k x else x, q⟩) ∧
      (old.enabled = false → r.enabled = true → exec c ⟨n, q⟩ = .next ⟨{ x with
        eq := { x.eq with
          flatShelf := .ofFn (fun j => if j = k then true else n.eq.flatShelf[j])
          records := .ofFn (fun j =>
            if j = k then { x.eq.records[k] with current := desired } else n.eq.records[j]) } }, q⟩) ∧
      (old.enabled = true → r.enabled = false →
        ∀ (last : SetRef) (y : Node),
          y = { x with
            levels := { n.levels with
              speakers := .ofFn (fun j =>
                if j = k then { applied := -960, effective := -960, linear := 0 } else n.levels.speakers[j])
              clips := .ofFn (fun j =>
                if j = k then { n.levels.clips[k] with running := false, last := false } else n.levels.clips[j]) }
            eq := { n.eq with
              records := .ofFn (fun j =>
                if j = k then
                  { phase := .idle, current := if m 8 || m 9 then desired else last, running := .replicate 8 {},
                    incoming := .replicate 8 {}, lp := 0 }
                else n.eq.records[j]) } } →
          (n.eq.records[k].phase = .idle → last = n.eq.records[k].current → exec c ⟨n, q⟩ = .next ⟨y, q⟩) ∧
          (n.eq.records[k].phase = .waiting last → exec c ⟨n, q⟩ = .next ⟨{ y with
            eq := { y.eq with waiting := n.eq.waiting.filter (· ≠ k) } }, q⟩) ∧
          ∀ (e : Fin 8) (g : Held) (t : SetRef) (p : Option SetRef), n.eq.records[k].phase = .fading t p →
            last = p.getD t → n.eq.slots[e] = some g → g.speaker = k →
            (∀ f : Fin 8, ∀ g : Held, n.eq.slots[f] = some g → g.speaker = k → f = e) →
            (n.eq.waiting = [] → exec c ⟨n, q⟩ = .next ⟨{ y with
              eq := { y.eq with
                slots := .ofFn fun f => if f = e then none else n.eq.slots[f] } }, q⟩) ∧
            ∀ (w : Fin 24) (others : List (Fin 24)) (s : SetRef),
              n.eq.waiting = w :: others → n.eq.records[w].phase = .waiting s → exec c ⟨n, q⟩ = .next ⟨{ y with
                eq := { y.eq with
                  waiting := others
                  slots := .ofFn (fun f => if f = e then
                    some { speaker := w, length := n.tables.nodeEntry.crossfadeLength, count := 0 }
                    else n.eq.slots[f])
                  records := .ofFn (fun j =>
                    if j = w then { n.eq.records[w] with phase := .fading s none, incoming := .replicate 8 {} }
                    else y.eq.records[j]) } }, q⟩)

/-- R158, R2, R24, R117, R26, R15, R10, R22, R23, R170, R173: TABLE_WRITE of one element of the source, zone,
program-zone, duck, presence, volume and balance curve tables, under every field mask: structural values refuse when they
are illegal, the others are clamped, and a group not selected keeps its value. A zone write that switches the guard off
makes its state 0; any other raises the guard code to the floor. -/
def Obligations.TableWriteWritesLevelTables : Prop :=
  ∀ (n : Node) (q : List Instr) (h : MsgHeader) (i hi lo : Byte) (m : Nat → Bool),
    arrivesAtBoundary .tableWrite h n → (∀ g, m g = (256 * hi.toNat + lo.toNat).testBit g) →
    (∀ (j : Fin 12) (old : Source) (enabled slot program : Byte), i.toNat = j.val → old = n.tables.sources[j] →
      writesOrRefuses n q (writeOne h 1 i hi lo [[enabled], [slot], [program]])
        (fun r : Source =>
          (if m 0 then enabled = flagCode r.enabled else r.enabled = old.enabled) ∧
          (if m 1 then slot = indexCode r.slot else r.slot = old.slot) ∧
          (if m 2 then program = indexCode r.program else r.program = old.program))
        (fun r => { lanesTaken .setting n with tables := { n.tables with
          sources := .ofFn fun x => if x = j then r else n.tables.sources[x] } })) ∧
    (∀ (j : Fin 4) (old : Zone) (ceilHi ceilLo down up slew curve guardOn attack floorHi floorLo holdHi holdLo recover : Byte),
      i.toNat = j.val → old = n.tables.zones[j] →
      writesOrRefuses n q
        (writeOne h 3 i hi lo [[ceilHi, ceilLo], [down], [up], [slew], [curve], [guardOn], [attack],
          [floorHi, floorLo], [holdHi, holdLo], [recover]])
        (fun r : Zone =>
          r.ceiling = (if m 0 then max (-480) (min 0 (ceilHi ++ ceilLo).toInt) else old.ceiling) ∧
          r.downSlew = (if m 1 then max 1 (min 48 down.toNat) else old.downSlew) ∧
          r.upSlew = (if m 2 then max 1 (min 48 up.toNat) else old.upSlew) ∧
          r.speakerSlew = (if m 3 then max 1 (min 48 slew.toNat) else old.speakerSlew) ∧
          (if m 4 then curve = indexCode r.curve else r.curve = old.curve) ∧
          (if m 5 then guardOn = flagCode r.guardOn else r.guardOn = old.guardOn) ∧
          r.attack = (if m 6 then max 1 (min 24 attack.toNat) else old.attack) ∧
          r.floor = (if m 7 then max (-192) (min (-1) (floorHi ++ floorLo).toInt) else old.floor) ∧
          r.hold = (if m 8 then max 1 (min 4095 (256 * holdHi.toNat + holdLo.toNat)) else old.hold) ∧
          r.recover = (if m 9 then max 1 recover.toNat else old.recover))
        (fun r => { lanesTaken .setting n with
          tables := { n.tables with
            zones := .ofFn fun x => if x = j then r else n.tables.zones[x] }
          guards := .ofFn fun x =>
            if x ≠ j then n.guards[x]
            else if old.guardOn ∧ ¬r.guardOn then { code := 0, hold := 0, recover := 0 }
            else { n.guards[x] with code := max n.guards[x].code r.floor } })) ∧
    (∀ (j : Fin 16) (old : Pair) (follow ramp : Byte), i.toNat = j.val → old = n.tables.pairs[j] →
      writesOrRefuses n q (writeOne h 4 i hi lo [[follow], [ramp]])
        (fun r : Pair =>
          (if m 0 then follow = flagCode r.follow else r.follow = old.follow) ∧
          (if m 1 then ramp = optCode r.ramp else r.ramp = old.ramp))
        (fun r => { lanesTaken .setting n with tables := { n.tables with
          pairs := .ofFn fun x => if x = j then r else n.tables.pairs[x] } })) ∧
    (∀ (j : Fin 4) (old : PresenceEntry) (t2 t1 t0 holdHi holdLo : Byte),
      i.toNat = j.val → old = n.tables.presence[j] →
      writesOrRefuses n q (writeOne h 6 i hi lo [[t2, t1, t0], [holdHi, holdLo]])
        (fun r : PresenceEntry =>
          r.threshold = (if m 0 then min 8388608 (65536 * t2.toNat + 256 * t1.toNat + t0.toNat) else old.threshold) ∧
          r.hold = (if m 1 then max 1 (min 4095 (256 * holdHi.toNat + holdLo.toNat)) else old.hold))
        (fun r => { lanesTaken .setting n with tables := { n.tables with
          presence := .ofFn fun x => if x = j then r else n.tables.presence[x] } })) ∧
    ∀ (codeHi codeLo : Byte) (merged : Int → Int),
      (∀ old, merged old = if m 0 then max (-960) (min 0 (codeHi ++ codeLo).toInt) else old) →
      (∀ j : Fin 64, i.toNat = j.val →
        exec (writeOne h 5 i hi lo [[codeHi, codeLo]]) ⟨n, q⟩ = .next ⟨{ lanesTaken .setting n with
          tables := { n.tables with
          duck := .ofFn fun x => if x = j then merged n.tables.duck[j] else n.tables.duck[x] } }, q⟩ ∧
        exec (writeOne h 7 i hi lo [[codeHi, codeLo]]) ⟨n, q⟩ = .next ⟨{ lanesTaken .setting n with
          tables := { n.tables with
          volume := .ofFn fun x => if x = j then merged n.tables.volume[j] else n.tables.volume[x] } }, q⟩) ∧
      ∀ j : Fin 33, i.toNat = j.val →
        exec (writeOne h 8 i hi lo [[codeHi, codeLo]]) ⟨n, q⟩ = .next ⟨{ lanesTaken .setting n with
          tables := { n.tables with
          balance := .ofFn fun x => if x = j then merged n.tables.balance[j] else n.tables.balance[x] } }, q⟩

/-- R158, R46, R48, R71, R87, R73, R162, R97, R170, R173: TABLE_WRITE of one element of the speed settings, speed curve,
EQ set, node and ramp tables, under every field mask: values are clamped, a list above its maximum refuses, thresholds
and curve speeds must rise strictly, and an EQ set that some speaker names as current, target, pending or queued set
refuses, whatever the mask selects (log entries 22 and 24). -/
def Obligations.TableWriteWritesSpeedEqAndRampTables : Prop :=
  ∀ (n : Node) (q : List Instr) (h : MsgHeader) (i hi lo : Byte) (m : Nat → Bool),
    arrivesAtBoundary .tableWrite h n → (∀ g, m g = (256 * hi.toNat + lo.toNat).testBit g) →
    (∀ (old : SpeedSettings) (weight staleHi staleLo failHi failLo attack release hyst a1 a0 b1 b0 c1 c0 band : Byte),
      i = 0 → old = n.tables.settings →
      writesOrRefuses n q
        (writeOne h 9 i hi lo [[weight], [staleHi, staleLo], [failHi, failLo], [attack], [release], [hyst], [a1, a0],
          [b1, b0], [c1, c0], [band]])
        (fun r : SpeedSettings =>
          r.weight = (if m 0 then max 1 (min 16 weight.toNat) else old.weight) ∧
          r.staleTime = (if m 1 then max 1 (min 4095 (256 * staleHi.toNat + staleLo.toNat)) else old.staleTime) ∧
          r.failTime = (if m 2 then max 1 (256 * failHi.toNat + failLo.toNat) else old.failTime) ∧
          r.attack = (if m 3 then max 1 (min 8 attack.toNat) else old.attack) ∧
          r.release = (if m 4 then max 1 release.toNat else old.release) ∧
          r.hysteresis = (if m 5 then min 48 hyst.toNat else old.hysteresis) ∧
          r.theta1 = (if m 6 then min 1200 (256 * a1.toNat + a0.toNat) else old.theta1) ∧
          r.theta2 = (if m 7 then min 1200 (256 * b1.toNat + b0.toNat) else old.theta2) ∧
          r.theta3 = (if m 8 then min 1200 (256 * c1.toNat + c0.toNat) else old.theta3) ∧
          r.bandHysteresis = (if m 9 then min 200 band.toNat else old.bandHysteresis) ∧
          r.theta1 < r.theta2 ∧ r.theta2 < r.theta3)
        (fun r => { lanesTaken .setting n with tables := { n.tables with settings := r } })) ∧
    (∀ (j : Fin 4) (old : Curve) (points : List (BitVec 16 × Byte × Byte)) (o0 o1 o2 o3 : Byte)
      (groups : List (List Byte)), i.toNat = j.val → old = n.tables.curves[j] →
      groups = [counted (points.map fun p => word16 p.1 ++ [p.2.1, p.2.2]), [o0, o1, o2, o3]] →
      (selected (256 * hi.toNat + lo.toNat) groups).length ≤ 122 →
      writesOrRefuses n q (writeOne h 10 i hi lo groups)
        (fun r : Curve =>
          (if m 0 then points.length ≤ 12 ∧ r.points.Pairwise (fun x y => x.speed < y.speed) ∧
              r.points = points.map (fun p =>
                { speed := min 1200 p.1.toNat, lift := min 192 p.2.1.toNat, bass := min 96 p.2.2.toNat })
            else r.points = old.points) ∧
          r.offsets = (if m 1 then #v[min 48 o0.toNat, min 48 o1.toNat, min 48 o2.toNat, min 48 o3.toNat]
            else old.offsets))
        (fun r => { lanesTaken .setting n with tables := { n.tables with
          curves := .ofFn fun x => if x = j then r else n.tables.curves[x] } })) ∧
    (∀ (j : Fin 48) (sections : List Section) (groups : List (List Byte)) (names : EqRecord → Prop), i.toNat = j.val →
      groups = [counted (sections.map fun s =>
        word24 s.b0 ++ word24 s.b1 ++ word24 s.b2 ++ word24 s.a1 ++ word24 s.a2)] →
      (selected (256 * hi.toNat + lo.toNat) groups).length ≤ 122 →
      (∀ r, names r ↔ r.current = .set j ∨ r.phase = .waiting (.set j) ∨ (∃ p, r.phase = .fading (.set j) p) ∨
        ∃ t, r.phase = .fading t (some (.set j))) →
      writesOrRefuses n q (writeOne h 11 i hi lo groups)
        (fun r : List Section =>
          (if m 0 then sections.length ≤ 8 ∧ r = sections else r = n.tables.eqSets[j]) ∧
          ∀ k : Fin 24, ¬names n.eq.records[k])
        (fun r => { lanesTaken .setting n with tables := { n.tables with
          eqSets := .ofFn fun x => if x = j then r else n.tables.eqSets[x] } })) ∧
    (∀ (lengthHi lengthLo maskHi maskLo : Byte), i = 0 →
      exec (writeOne h 12 i hi lo [[lengthHi, lengthLo], [maskHi, maskLo]]) ⟨n, q⟩ =
        .next ⟨{ lanesTaken .setting n with tables := { n.tables with nodeEntry := {
          crossfadeLength := if m 0 then max 16 (min 256 (256 * lengthHi.toNat + lengthLo.toNat))
            else n.tables.nodeEntry.crossfadeLength
          attentionMask := if m 1 then (maskHi ++ maskLo).truncate 13 else n.tables.nodeEntry.attentionMask } } },
        q⟩) ∧
    ∀ (j : Fin 6) (old : RampList) (segments : List (BitVec 16 × BitVec 16)) (loopStart loopCount : Byte)
      (groups : List (List Byte)), i.toNat = j.val → old = n.tables.ramps[j] →
      groups = [counted (segments.map fun s => word16 s.1 ++ word16 s.2), [loopStart], [loopCount]] →
      (selected (256 * hi.toNat + lo.toNat) groups).length ≤ 122 →
      writesOrRefuses n q (writeOne h 13 i hi lo groups)
        (fun r : RampList =>
          (if m 0 then segments.length ≤ 16 ∧ r.segments = segments.map (fun s =>
              { target := max (-960) (min 0 s.1.toInt), duration := min 4095 s.2.toNat })
            else r.segments = old.segments) ∧
          (if m 1 then loopStart = optCode r.loopStart else r.loopStart = old.loopStart) ∧
          r.loopCount = (if m 2 then loopCount else old.loopCount))
        (fun r => { lanesTaken .setting n with tables := { n.tables with
          ramps := .ofFn fun x => if x = j then r else n.tables.ramps[x] } })

/-- R76, R75, R90: an EQ_SELECT in HALTED writes the band entries of the speakers it names, and each takes its desired
set as its current set at once; an illegal band or set refuses the message. -/
def Obligations.EqSelectWritesBandSets : Prop :=
  ∀ (n : Node) (q : List Instr) (h : MsgHeader) (m2 m1 m0 band set : Byte) (mask : Nat),
    arrivesAtBoundary .eqSelect h n → mask = 65536 * m2.toNat + 256 * m1.toNat + m0.toNat →
    (3 < band.toNat ∧ band ≠ 0xFF ∨ 47 < set.toNat ∧ set ≠ 0xFF →
      exec (.eqSelect h [m2, m1, m0, band, set]) ⟨n, q⟩ =
        .next ⟨{ lanesTaken .setting n with events := n.events ||| 0x20#13 }, q⟩) ∧
    (∀ s : SetRef, n.control.node = .halted → band.toNat ≤ 3 ∨ band = 0xFF →
      (set = 0xFF ∧ s = .flat ∨ ∃ e : Fin 48, set.toNat = e.val ∧ s = .set e) →
      ∃ m : Node, exec (.eqSelect h [m2, m1, m0, band, set]) ⟨n, q⟩ = .next ⟨m, q⟩ ∧
        m = { lanesTaken .setting n with
          tables := { n.tables with
          speakers := .ofFn fun k =>
            if mask.testBit k.val then
              { n.tables.speakers[k] with
              bandSets := .ofFn fun b =>
                if band = 0xFF ∨ band.toNat = b.val then s else n.tables.speakers[k].bandSets[b] }
            else n.tables.speakers[k] }
          eq := { n.eq with records := m.eq.records } } ∧
        ∀ k : Fin 24,
          (mask.testBit k.val = false → m.eq.records[k] = n.eq.records[k]) ∧
          (mask.testBit k.val = true → m.eq.records[k] = { n.eq.records[k] with
            current := m.tables.speakers[k].bandSets[
              if m.tables.speakers[k].bandLinked then n.tracker.band else 0] }))

/-- R75, R76, R79 to R84, R90: EQ_SELECT writes the band entries of the speakers it names, in speaker index order, each
followed by that speaker's desired-set request. A request of a disabled speaker, or outside QUIET and ACTIVE, makes the
desired set current at once. In IDLE an equal set changes nothing, a free slot is taken, lowest number first, and without
one the speaker joins the tail of the wait queue with CROSSFADE_WAIT. In WAITING the current set leaves the queue and
another replaces the queued one. In FADING the target clears the pending set and another becomes it. -/
def Obligations.DesiredSetRequestsFollowTheEqState : Prop :=
  (∀ (n : Node) (q : List Instr) (h : MsgHeader) (m2 m1 m0 band set : Byte) (mask : Nat) (s : SetRef)
     (select : Fin 24 → Node → Node),
     arrivesAtBoundary .eqSelect h n → mask = 65536 * m2.toNat + 256 * m1.toNat + m0.toNat →
     band.toNat ≤ 3 ∨ band = 0xFF → set = setCode s →
     (∀ k x, select k x = request k { x with tables := { x.tables with
       speakers := .ofFn fun j =>
         if j = k then
           { x.tables.speakers[k] with
           bandSets := .ofFn fun b =>
             if band = 0xFF ∨ band.toNat = b.val then s else x.tables.speakers[k].bandSets[b] }
         else x.tables.speakers[j] } }) →
     exec (.eqSelect h [m2, m1, m0, band, set]) ⟨n, q⟩ = .next ⟨(List.finRange 24).foldl
       (fun x k => if mask.testBit k.val then select k x else x) (lanesTaken .setting n), q⟩) ∧
  ∀ (x : Node) (k : Fin 24) (r : EqRecord) (s : SetRef), r = x.eq.records[k] →
    s = x.tables.speakers[k].bandSets[if x.tables.speakers[k].bandLinked then x.tracker.band else 0] →
    (x.tables.speakers[k].enabled = false ∨ x.control.node ≠ .quiet ∧ x.control.node ≠ .active →
      request k x = { x with eq := { x.eq with
        records := .ofFn fun j => if j = k then { r with current := s } else x.eq.records[j] } }) ∧
    (x.tables.speakers[k].enabled = true → x.control.node = .quiet ∨ x.control.node = .active →
      (r.phase = .idle → s = r.current → request k x = x) ∧
      (∀ i : Fin 8, r.phase = .idle → s ≠ r.current → x.eq.slots[i] = none → (∀ j, j < i → x.eq.slots[j] ≠ none) →
        request k x = { x with eq := { x.eq with
          slots := .ofFn (fun j => if j = i then
            some { speaker := k, length := x.tables.nodeEntry.crossfadeLength, count := 0 } else x.eq.slots[j])
          records := .ofFn (fun j => if j = k then { r with phase := .fading s none, incoming := .replicate 8 {} }
            else x.eq.records[j]) } }) ∧
      (r.phase = .idle → s ≠ r.current → (∀ i : Fin 8, x.eq.slots[i] ≠ none) →
        request k x = { x with
          events := x.events ||| 0x800#13
          eq := { x.eq with
            waiting := x.eq.waiting ++ [k]
            records := .ofFn (fun j => if j = k then { r with phase := .waiting s } else x.eq.records[j]) } }) ∧
      (∀ w : SetRef, r.phase = .waiting w → s = r.current →
        request k x = { x with eq := { x.eq with
          waiting := x.eq.waiting.filter (· ≠ k)
          records := .ofFn (fun j => if j = k then { r with phase := .idle } else x.eq.records[j]) } }) ∧
      (∀ w : SetRef, r.phase = .waiting w → s ≠ r.current →
        request k x = { x with eq := { x.eq with
          records := .ofFn (fun j => if j = k then { r with phase := .waiting s } else x.eq.records[j]) } }) ∧
      (∀ (t : SetRef) (p : Option SetRef), r.phase = .fading t p →
        request k x = { x with eq := { x.eq with
          records := .ofFn (fun j => if j = k then
            { r with phase := .fading t (if s = t then none else some s) } else x.eq.records[j]) } }))

/-! ### The laws that every step keeps -/

/-- R138: the node after reset is safe; the laws stand in Safety.lean. -/
def Obligations.ResetIsSafe : Prop := Safe State.reset

/-- R154, R167: from every state in which the lane queues hold at most 4 and 8 messages and the reply queue at most 4,
every step keeps that; and so for the pass-through store, which never holds more than 132 entries. -/
def Obligations.StepsKeepTheQueuesWithinTheirRoom : Prop :=
  ∀ s t : State, step s = .next t →
    (QueuesFit s.node → QueuesFit t.node) ∧ (StoreFits s.node → StoreFits t.node)

/-- R28, R39, R40, R21: every step keeps the output slots of the enabled speakers distinct; and every step keeps every
program-zone code within -960..0 and every speaker code within -960..192, with each linear gain that of its effective
code. -/
def Obligations.StepsKeepSlotsDistinctAndCodesInRange : Prop :=
  ∀ s t : State, step s = .next t →
    (SlotsDistinct s.node → SlotsDistinct t.node) ∧ (CodesFit s.node → CodesFit t.node)

/-- R130, R137, R139, R148, R77, R83, R84, R89, R91: every step keeps the node state and the link port as their laws
have them (DETACHED exactly while the head side hunts, the latched address the place of the node); and every step keeps
the law of the crossfade slots and the wait queue. -/
def Obligations.StepsKeepTheLinkAndTheCrossfades : Prop :=
  ∀ s t : State, step s = .next t →
    (LinkFits s.node → LinkFits t.node) ∧ (CrossfadesFit s.node → CrossfadesFit t.node)

/-! ### The wire -/

/-- R122, R123, R169: the 832 bits of a frame, every field at its place with its most significant bit first, spell that
frame, downstream and upstream, whatever its fields and its fill hold, with the marker codes 00 IDLE, 01 DATA, 10 END
and 11 ABORT; and bits are taken for a frame by their sync alone. -/
def Obligations.FrameBitsSpellTheFrame : Prop :=
  (∀ (f : DownFrame) (code : Marker → BitVec 2), code .idle = 0 → code .data = 1 → code .fin = 2 → code .abort = 3 →
    downOf (downBits f) = some f ∧ (downBits f).length = 832 ∧
    (∀ i, i < 16 → (downBits f)[i]? = some ((0xE81D#16).getMsbD i)) ∧
    (∀ i, i < 3 → (downBits f)[16 + i]? = some (f.hop.getMsbD i)) ∧
    (∀ i, i < 4 → (downBits f)[19 + i]? = some (f.code.getMsbD i)) ∧
    (∀ i, i < 2 → (downBits f)[23 + i]? = some ((code f.setting.marker).getMsbD i) ∧
      (downBits f)[33 + i]? = some ((code f.live.marker).getMsbD i)) ∧
    (∀ i, i < 8 → (downBits f)[25 + i]? = some (f.setting.byte.getMsbD i) ∧
      (downBits f)[35 + i]? = some (f.live.byte.getMsbD i)) ∧
    (∀ (k : Fin 32) (i : Nat), i < 24 → (downBits f)[43 + 24 * k.val + i]? = some (f.slots[k].getMsbD i)) ∧
    ∀ i, i < 21 → (downBits f)[811 + i]? = some (f.fill.getMsbD i)) ∧
  (∀ (f : UpFrame) (code : Marker → BitVec 2), code .idle = 0 → code .data = 1 → code .fin = 2 → code .abort = 3 →
    upOf (upBits f) = some f ∧ (upBits f).length = 832 ∧
    (∀ i, i < 16 → (upBits f)[i]? = some ((0x17E2#16).getMsbD i)) ∧
    (∀ i, i < 2 → (upBits f)[16 + i]? = some ((code f.reply.marker).getMsbD i)) ∧
    (∀ i, i < 8 → (upBits f)[18 + i]? = some (f.reply.byte.getMsbD i)) ∧
    (∀ (p : Fin 4) (i : Nat), i < 12 → (upBits f)[26 + 12 * p.val + i]? = some (f.status[p].getMsbD i)) ∧
    ∀ i, i < 758 → (upBits f)[74 + i]? = some (f.fill.getMsbD i)) ∧
  ∀ l : List Bool, l.length = 832 →
    ((downOf l).isSome = true ↔ l.take 16 = fieldBits 0xE81D#16) ∧
    ((upOf l).isSome = true ↔ l.take 16 = fieldBits 0x17E2#16)

end
end

