-- ==== Sys2Proof/Laws/Boundary.lean ====
section
/-! SUPPORT. What completing a boundary and taking one work of it can do. -/

namespace Sys2Proof.Machine

/-- R105: where the live lane's head waits for ramp steps, a ramp step stands. -/
theorem ramp_of_rampControlSplit (n : Node) (h : rampControlSplit n = true) : ∃ u, Work.ramp u ∈ n.boundary := by
  unfold rampControlSplit at h
  split at h
  · cases h
  · split at h
    · simp at h
    · simp only [splitsUnits, Bool.and_eq_true, List.any_eq_true, List.contains_iff_mem] at h
      obtain ⟨-, ⟨u, -, -, hu⟩, -⟩ := h
      exact ⟨u, hu⟩

/-- R105: only a RAMP_CONTROL at the head of the live lane waits for ramp steps. -/
theorem rampControlSplit_of_head (n : Node) (h : ∀ m ∈ n.liveLane.queue.head?, requestKind .live m ≠ some .rampControl) :
    rampControlSplit n = false := by
  unfold rampControlSplit
  split
  · rfl
  · rename_i m _ hq
    have := h m (by simp [hq])
    simp [this]

/-- R105: a mask splits no steps when the steps of all the units it names stand, or none. -/
theorem splitsUnits_eq_false (mask : Nat) (works : List Work) : splitsUnits mask works = false ↔
    ∀ u v : Fin 6, mask.testBit u.val = true → mask.testBit v.val = true → (.ramp u ∈ works ↔ .ramp v ∈ works) := by
  unfold splitsUnits maskBit
  rw [Bool.and_eq_false_iff, List.any_eq_false, List.any_eq_false]
  simp only [Bool.and_eq_true, List.contains_iff_mem, not_and, Bool.not_eq_true', List.mem_finRange, true_implies]
  constructor
  · rintro (h | h) u v hu hv
    · exact ⟨fun a => absurd a (h u hu), fun a => absurd a (h v hv)⟩
    · have h1 := h u hu
      have h2 := h v hv
      simp at h1 h2
      exact ⟨fun _ => h2, fun _ => h1⟩
  · intro h
    by_cases hx : ∃ u : Fin 6, mask.testBit u.val = true ∧ Work.ramp u ∈ works
    · obtain ⟨u, hu, hb⟩ := hx
      right
      intro v hv
      simp [(h u v hu hv).1 hb]
    · left
      intro u hu hb
      exact hx ⟨u, hu, hb⟩

/-- Where works stand, one of them may be taken next. -/
theorem choices_ne_nil (n : Node) (h : n.boundary ≠ []) : choices n ≠ [] := by
  intro hc
  have none : ∀ w ∈ n.boundary, mayTake n w = false := by
    intro w hw
    by_contra hm
    have : w ∈ choices n := by simp [choices, hw, Bool.not_eq_false] at *; simp_all
    simp [hc] at this
  have noRamp : ∀ u, Work.ramp u ∉ n.boundary := fun u h => by simpa [mayTake] using none _ h
  have noLive : Work.liveTake ∉ n.boundary := fun h => by
    obtain ⟨u, hu⟩ := ramp_of_rampControlSplit n (by simpa [mayTake] using none _ h)
    exact noRamp u hu
  have noSetting : Work.settingTake ∉ n.boundary := fun h => by
    simpa [mayTake, noLive] using none _ h
  have noComplete : ∀ m : Nat, ∀ k : Fin 8, k.val ≤ m → Work.complete k ∉ n.boundary := by
    intro m
    induction m with
    | zero =>
      intro k hk h
      have := none _ h
      simp only [mayTake, List.all_eq_false] at this
      obtain ⟨j, -, hj⟩ := this
      simp at hj
      omega
    | succ m ih =>
      intro k hk h
      have := none _ h
      simp only [mayTake, List.all_eq_false] at this
      obtain ⟨j, -, hj⟩ := this
      simp at hj
      exact ih j (by omega) hj.1.2
  obtain ⟨w, hw⟩ := List.exists_mem_of_ne_nil _ h
  have := none w hw
  cases w with
  | complete k => exact noComplete 8 k (by omega) hw
  | liveTake => exact noLive hw
  | settingTake => exact noSetting hw
  | starting => simp [mayTake, noSetting] at this
  | judge _ => simp [mayTake] at this
  | track => simp [mayTake] at this
  | guardStep => simp [mayTake] at this
  | ramp u => exact noRamp u hw
  | shelf => simp [mayTake] at this
  | compose => simp [mayTake] at this

/-- The work taken next stands at the boundary and may be taken. -/
theorem nextWork_mem (n : Node) (w : Work) (h : nextWork n = some w) : w ∈ n.boundary ∧ mayTake n w = true := by
  have : w ∈ choices n := by
    unfold nextWork at h
    split at h
    · cases h
    · rename_i v hc; simp at h; simp [hc, h]
    · exact List.mem_of_getElem? h
  simpa [choices] using this

/-- Where works stand, a work is taken next. -/
theorem nextWork_some (n : Node) (h : n.boundary ≠ []) : ∃ w, nextWork n = some w := by
  have hc := choices_ne_nil n h
  unfold nextWork
  split
  · contradiction
  · exact ⟨_, rfl⟩
  · rename_i hx _
    have hl : (choices n).length ≠ 0 := by simpa using hc
    refine ⟨(choices n)[Config.boundaryPick n.choice % (choices n).length]'(Nat.mod_lt _ (by omega)), ?_⟩
    simp

/-- No boundary stands: completing it changes nothing. -/
theorem completeBoundary_nil (n : Node) (h : n.boundary = []) : completeBoundary n = n := by
  simp [completeBoundary, h, runWorks]

/-- One work alone is left: completing the boundary is taking it. -/
theorem completeBoundary_single (n : Node) (w : Work) (h : n.boundary = [w]) :
    completeBoundary n = takeWork w { n with choice := n.choice + 1 } := by
  obtain ⟨v, hv⟩ := nextWork_some n (by simp [h])
  have hm := (nextWork_mem n v hv).1
  rw [h, List.mem_singleton] at hm
  subst hm
  have hl : n.boundary.length = 1 := by rw [h]; rfl
  rw [completeBoundary, hl, runWorks, hv]
  rfl

/-- An event that comes about is the taking of its work; one that does not changes nothing. -/
theorem takeEvent_cases (w : Work) (b : Bool) (n : Node) :
    (workDue w n = true ∧ b = true ∧ takeEvent w b n = takeWork w n) ∨
    ((workDue w n = false ∨ b = false) ∧ takeEvent w b n = n) := by
  unfold takeEvent
  cases workDue w n <;> cases b <;> simp

/-- Taking a work in a state with boundaries. -/
theorem takeWork_inService (w : Work) (n : Node) (h : inService n.control.node = true) :
    takeWork w n = doWork w { n with boundary := n.boundary.erase w } := by simp [takeWork, h]

end Sys2Proof.Machine
end

