-- ==== Sys2Proof/Laws/Bytes.lean ====
section
/-! SUPPORT. The manual's bytes of Safety.lean against the bytes that the machine reads and writes: what each reading
function answers for received bytes, and what each writing function sends (R170). -/

namespace Sys2Proof.Machine

/-! ## Reading -/

theorem unsignedOf_two (hi lo : Byte) : unsignedOf [hi, lo] = 256 * hi.toNat + lo.toNat := by
  simp [unsignedOf, mul_comm]

theorem unsignedOf_three (hi mid lo : Byte) :
    unsignedOf [hi, mid, lo] = 65536 * hi.toNat + 256 * mid.toNat + lo.toNat := by
  simp [unsignedOf]; omega

theorem signedOf_one (b : Byte) : signedOf [b] = b.toInt := by
  rw [BitVec.toInt_eq_toNat_bmod]
  simp [signedOf, unsignedOf]

theorem signedOf_two (hi lo : Byte) : signedOf [hi, lo] = (hi ++ lo).toInt := by
  have : (hi ++ lo).toNat = 256 * hi.toNat + lo.toNat := by
    rw [BitVec.toNat_append, ← Nat.shiftLeft_add_eq_or_of_lt (by omega), Nat.shiftLeft_eq]; omega
  rw [BitVec.toInt_eq_toNat_bmod, this]
  simp [signedOf, unsignedOf, mul_comm]

theorem unsignedOf_word16 (x : BitVec 16) : unsignedOf (word16 x) = x.toNat := by
  have := x.isLt
  simp [unsignedOf, word16, BitVec.extractLsb'_toNat, Nat.shiftRight_eq_div_pow]; omega

theorem unsignedOf_word24 (x : BitVec 24) : unsignedOf (word24 x) = x.toNat := by
  have := x.isLt
  simp [unsignedOf, word24, BitVec.extractLsb'_toNat, Nat.shiftRight_eq_div_pow]; omega

theorem signedOf_word16 (x : BitVec 16) : signedOf (word16 x) = x.toInt := by
  unfold signedOf
  rw [unsignedOf_word16, BitVec.toInt_eq_toNat_bmod]
  simp [word16]

theorem flagOf_eq_some (b : Byte) (on : Bool) : flagOf b = some on ↔ b = flagCode on := by
  unfold flagOf flagCode
  cases on <;> by_cases h : b = 0 <;> by_cases g : b = 1 <;> simp_all

theorem indexOf_eq_some {k : Nat} (hk : k ≤ 256) (b : Byte) (i : Fin k) : indexOf k b = some i ↔ b = indexCode i := by
  unfold indexOf indexCode
  constructor
  · intro h
    split at h
    · cases h; simp
    · cases h
  · rintro rfl
    have : (BitVec.ofNat 8 i.val).toNat = i.val := by simp; omega
    simp [this]

theorem indexOf_eq_none (k : Nat) (b : Byte) (h : k ≤ b.toNat) : indexOf k b = none := by
  unfold indexOf; rw [dif_neg (by omega)]

theorem optIndexOf_eq_some {k : Nat} (hk : k ≤ 255) (b : Byte) (i : Option (Fin k)) :
    optIndexOf k b = some i ↔ b = optCode i := by
  unfold optIndexOf
  constructor
  · intro h
    split at h
    · cases h; simp [optCode, indexCode]
    · split at h
      · cases h; simpa [optCode]
      · cases h
  · rintro rfl
    cases i with
    | none => simp only [optCode]; rw [dif_neg (by simp; omega)]; simp
    | some i =>
      have : (BitVec.ofNat 8 i.val).toNat = i.val := by simp; omega
      simp [optCode, indexCode, this]

theorem setRefOf_eq_some (b : Byte) (s : SetRef) : setRefOf b = some s ↔ b = setCode s := by
  unfold setRefOf
  constructor
  · intro h
    split at h
    · cases h; simp [setCode, indexCode]
    · split at h
      · cases h; simpa [setCode]
      · cases h
  · rintro rfl
    cases s with
    | flat => simp [setCode]
    | set e =>
      have : (BitVec.ofNat 8 e.val).toNat = e.val := by simp; omega
      simp [setCode, indexCode, this]

theorem sideOf_eq_some (b : Byte) (s : Side) : sideOf b = some s ↔ b = sideCode s := by
  revert b; cases s <;> decide +kernel

theorem alongOf_eq_some (b : Byte) (e : CabinEnd) : alongOf b = some e ↔ b = endCode e := by
  revert b; cases e <;> decide +kernel

/-! ## Writing -/

theorem word16_eq (x : BitVec 16) : word16 x = unsignedBytes 2 x.toNat := by
  simp only [word16, unsignedBytes]
  congr 1
  · apply BitVec.eq_of_toNat_eq; simp [Nat.shiftRight_eq_div_pow]
  · congr 1; apply BitVec.eq_of_toNat_eq; simp

theorem word16_ofNat (x : Nat) : word16 (BitVec.ofNat 16 x) = unsignedBytes 2 x := by
  rw [word16_eq]; simp only [unsignedBytes]
  congr 1
  · apply BitVec.eq_of_toNat_eq; simp; omega
  · congr 1; apply BitVec.eq_of_toNat_eq; simp

theorem word16_ofInt (x : Int) : word16 (BitVec.ofInt 16 x) = signedBytes 2 x := by
  rw [word16_eq]; simp only [signedBytes]; congr 1

theorem word24_eq (x : BitVec 24) : word24 x = unsignedBytes 3 x.toNat := by
  simp only [word24, unsignedBytes]
  congr 1
  · apply BitVec.eq_of_toNat_eq; simp [Nat.shiftRight_eq_div_pow]
  · congr 1
    · apply BitVec.eq_of_toNat_eq; simp [Nat.shiftRight_eq_div_pow]
    · congr 1; apply BitVec.eq_of_toNat_eq; simp

theorem word24_ofNat (x : Nat) : word24 (BitVec.ofNat 24 x) = unsignedBytes 3 x := by
  rw [word24_eq]; simp only [unsignedBytes]
  congr 1
  · apply BitVec.eq_of_toNat_eq; simp; omega
  · congr 1
    · apply BitVec.eq_of_toNat_eq; simp; omega
    · congr 1; apply BitVec.eq_of_toNat_eq; simp

theorem unsignedBytes_one (x : Nat) : unsignedBytes 1 x = [BitVec.ofNat 8 x] := by simp [unsignedBytes]

theorem signedBytes_one (x : Int) : signedBytes 1 x = [BitVec.ofInt 8 x] := by
  have : BitVec.ofInt 8 x = BitVec.ofNat 8 (x % 256).toNat := by
    apply BitVec.eq_of_toNat_eq
    have := Int.emod_nonneg x (show (256 : Int) ≠ 0 by decide)
    have := Int.emod_lt_of_pos x (show (0 : Int) < 256 by decide)
    simp; omega
  simp [signedBytes, unsignedBytes, this]

theorem setCode_eq (s : SetRef) : setCode s = setRefByte s := by cases s <;> rfl

theorem optCode_eq {k : Nat} (i : Option (Fin k)) : optCode i = optIndexByte i := by cases i <;> rfl

theorem sideCode_eq (s : Side) : sideCode s = sideByte s := by cases s <;> rfl

theorem endCode_eq (e : CabinEnd) : endCode e = alongByte e := by cases e <;> rfl

/-- R174: the selected groups of an element, from any mask bit on. -/
theorem joinGroups_eq (mask : Nat) (groups : List (List Byte)) (g : Nat) :
    joinGroups mask g groups = ((groups.zipIdx g).filter fun x => mask.testBit x.2).flatMap (·.1) := by
  induction groups generalizing g with
  | nil => rfl
  | cons a as ih =>
    by_cases h : mask.testBit g = true <;> simp [List.zipIdx_cons, joinGroups, maskBit, h, ih (g + 1)]

theorem selected_eq (mask : Nat) (groups : List (List Byte)) : selected mask groups = joinGroups mask 0 groups :=
  (joinGroups_eq mask groups 0).symm

end Sys2Proof.Machine
end

