-- ==== Sys2Proof/Laws/State.lean ====
section
/-! SUPPORT. One lemma for each field of the node under each of the updates that the operations of the machine are
made of, so that no proof unfolds a record update. -/

namespace Sys2Proof.Machine

variable (n : Node)

@[simp] theorem raise_control (e : Event) : (raise e n).control = n.control := by rw [raise]
@[simp] theorem raise_link (e : Event) : (raise e n).link = n.link := by rw [raise]
@[simp] theorem raise_tables (e : Event) : (raise e n).tables = n.tables := by rw [raise]
@[simp] theorem raise_live (e : Event) : (raise e n).live = n.live := by rw [raise]
@[simp] theorem raise_detectors (e : Event) : (raise e n).detectors = n.detectors := by rw [raise]
@[simp] theorem raise_levels (e : Event) : (raise e n).levels = n.levels := by rw [raise]
@[simp] theorem raise_tracker (e : Event) : (raise e n).tracker = n.tracker := by rw [raise]
@[simp] theorem raise_eq (e : Event) : (raise e n).eq = n.eq := by rw [raise]
@[simp] theorem raise_ramps (e : Event) : (raise e n).ramps = n.ramps := by rw [raise]
@[simp] theorem raise_guards (e : Event) : (raise e n).guards = n.guards := by rw [raise]
@[simp] theorem raise_settingLane (e : Event) : (raise e n).settingLane = n.settingLane := by rw [raise]
@[simp] theorem raise_liveLane (e : Event) : (raise e n).liveLane = n.liveLane := by rw [raise]
@[simp] theorem raise_replies (e : Event) : (raise e n).replies = n.replies := by rw [raise]
@[simp] theorem raise_merger (e : Event) : (raise e n).merger = n.merger := by rw [raise]
@[simp] theorem raise_events (e : Event) : (raise e n).events = n.events ||| eventBit e := by rw [raise]
@[simp] theorem raise_boundary (e : Event) : (raise e n).boundary = n.boundary := by rw [raise]
@[simp] theorem raise_choice (e : Event) : (raise e n).choice = n.choice := by rw [raise]

@[simp] theorem raiseIf_control (b : Bool) (e : Event) : (raiseIf b e n).control = n.control := by cases b <;> rfl
@[simp] theorem raiseIf_link (b : Bool) (e : Event) : (raiseIf b e n).link = n.link := by cases b <;> rfl
@[simp] theorem raiseIf_tables (b : Bool) (e : Event) : (raiseIf b e n).tables = n.tables := by cases b <;> rfl
@[simp] theorem raiseIf_live (b : Bool) (e : Event) : (raiseIf b e n).live = n.live := by cases b <;> rfl
@[simp] theorem raiseIf_detectors (b : Bool) (e : Event) : (raiseIf b e n).detectors = n.detectors := by cases b <;> rfl
@[simp] theorem raiseIf_levels (b : Bool) (e : Event) : (raiseIf b e n).levels = n.levels := by cases b <;> rfl
@[simp] theorem raiseIf_tracker (b : Bool) (e : Event) : (raiseIf b e n).tracker = n.tracker := by cases b <;> rfl
@[simp] theorem raiseIf_eq (b : Bool) (e : Event) : (raiseIf b e n).eq = n.eq := by cases b <;> rfl
@[simp] theorem raiseIf_ramps (b : Bool) (e : Event) : (raiseIf b e n).ramps = n.ramps := by cases b <;> rfl
@[simp] theorem raiseIf_guards (b : Bool) (e : Event) : (raiseIf b e n).guards = n.guards := by cases b <;> rfl
@[simp] theorem raiseIf_settingLane (b : Bool) (e : Event) : (raiseIf b e n).settingLane = n.settingLane := by cases b <;> rfl
@[simp] theorem raiseIf_liveLane (b : Bool) (e : Event) : (raiseIf b e n).liveLane = n.liveLane := by cases b <;> rfl
@[simp] theorem raiseIf_replies (b : Bool) (e : Event) : (raiseIf b e n).replies = n.replies := by cases b <;> rfl
@[simp] theorem raiseIf_merger (b : Bool) (e : Event) : (raiseIf b e n).merger = n.merger := by cases b <;> rfl
@[simp] theorem raiseIf_events (b : Bool) (e : Event) : (raiseIf b e n).events = if b then n.events ||| eventBit e else n.events := by cases b <;> rfl
@[simp] theorem raiseIf_boundary (b : Bool) (e : Event) : (raiseIf b e n).boundary = n.boundary := by cases b <;> rfl
@[simp] theorem raiseIf_choice (b : Bool) (e : Event) : (raiseIf b e n).choice = n.choice := by cases b <;> rfl

@[simp] theorem clearEvents_control (m : BitVec 13) : (clearEvents m n).control = n.control := by rw [clearEvents]
@[simp] theorem clearEvents_link (m : BitVec 13) : (clearEvents m n).link = n.link := by rw [clearEvents]
@[simp] theorem clearEvents_tables (m : BitVec 13) : (clearEvents m n).tables = n.tables := by rw [clearEvents]
@[simp] theorem clearEvents_live (m : BitVec 13) : (clearEvents m n).live = n.live := by rw [clearEvents]
@[simp] theorem clearEvents_detectors (m : BitVec 13) : (clearEvents m n).detectors = n.detectors := by rw [clearEvents]
@[simp] theorem clearEvents_levels (m : BitVec 13) : (clearEvents m n).levels = n.levels := by rw [clearEvents]
@[simp] theorem clearEvents_tracker (m : BitVec 13) : (clearEvents m n).tracker = n.tracker := by rw [clearEvents]
@[simp] theorem clearEvents_eq (m : BitVec 13) : (clearEvents m n).eq = n.eq := by rw [clearEvents]
@[simp] theorem clearEvents_ramps (m : BitVec 13) : (clearEvents m n).ramps = n.ramps := by rw [clearEvents]
@[simp] theorem clearEvents_guards (m : BitVec 13) : (clearEvents m n).guards = n.guards := by rw [clearEvents]
@[simp] theorem clearEvents_settingLane (m : BitVec 13) : (clearEvents m n).settingLane = n.settingLane := by rw [clearEvents]
@[simp] theorem clearEvents_liveLane (m : BitVec 13) : (clearEvents m n).liveLane = n.liveLane := by rw [clearEvents]
@[simp] theorem clearEvents_replies (m : BitVec 13) : (clearEvents m n).replies = n.replies := by rw [clearEvents]
@[simp] theorem clearEvents_merger (m : BitVec 13) : (clearEvents m n).merger = n.merger := by rw [clearEvents]
@[simp] theorem clearEvents_events (m : BitVec 13) : (clearEvents m n).events = n.events &&& ~~~m := by rw [clearEvents]
@[simp] theorem clearEvents_boundary (m : BitVec 13) : (clearEvents m n).boundary = n.boundary := by rw [clearEvents]
@[simp] theorem clearEvents_choice (m : BitVec 13) : (clearEvents m n).choice = n.choice := by rw [clearEvents]

@[simp] theorem setNodeState_control (s : NodeState) : (setNodeState s n).control = { n.control with node := s } := by rw [setNodeState]
@[simp] theorem setNodeState_link (s : NodeState) : (setNodeState s n).link = n.link := by rw [setNodeState]
@[simp] theorem setNodeState_tables (s : NodeState) : (setNodeState s n).tables = n.tables := by rw [setNodeState]
@[simp] theorem setNodeState_live (s : NodeState) : (setNodeState s n).live = n.live := by rw [setNodeState]
@[simp] theorem setNodeState_detectors (s : NodeState) : (setNodeState s n).detectors = n.detectors := by rw [setNodeState]
@[simp] theorem setNodeState_levels (s : NodeState) : (setNodeState s n).levels = n.levels := by rw [setNodeState]
@[simp] theorem setNodeState_tracker (s : NodeState) : (setNodeState s n).tracker = n.tracker := by rw [setNodeState]
@[simp] theorem setNodeState_eq (s : NodeState) : (setNodeState s n).eq = n.eq := by rw [setNodeState]
@[simp] theorem setNodeState_ramps (s : NodeState) : (setNodeState s n).ramps = n.ramps := by rw [setNodeState]
@[simp] theorem setNodeState_guards (s : NodeState) : (setNodeState s n).guards = n.guards := by rw [setNodeState]
@[simp] theorem setNodeState_settingLane (s : NodeState) : (setNodeState s n).settingLane = n.settingLane := by rw [setNodeState]
@[simp] theorem setNodeState_liveLane (s : NodeState) : (setNodeState s n).liveLane = n.liveLane := by rw [setNodeState]
@[simp] theorem setNodeState_replies (s : NodeState) : (setNodeState s n).replies = n.replies := by rw [setNodeState]
@[simp] theorem setNodeState_merger (s : NodeState) : (setNodeState s n).merger = n.merger := by rw [setNodeState]
@[simp] theorem setNodeState_events (s : NodeState) : (setNodeState s n).events = n.events := by rw [setNodeState]
@[simp] theorem setNodeState_boundary (s : NodeState) : (setNodeState s n).boundary = n.boundary := by rw [setNodeState]
@[simp] theorem setNodeState_choice (s : NodeState) : (setNodeState s n).choice = n.choice := by rw [setNodeState]

@[simp] theorem setHead_control (r : Receiver) : (setHead r n).control = n.control := by rw [setHead]
@[simp] theorem setHead_link (r : Receiver) : (setHead r n).link = { n.link with head := r } := by rw [setHead]
@[simp] theorem setHead_tables (r : Receiver) : (setHead r n).tables = n.tables := by rw [setHead]
@[simp] theorem setHead_live (r : Receiver) : (setHead r n).live = n.live := by rw [setHead]
@[simp] theorem setHead_detectors (r : Receiver) : (setHead r n).detectors = n.detectors := by rw [setHead]
@[simp] theorem setHead_levels (r : Receiver) : (setHead r n).levels = n.levels := by rw [setHead]
@[simp] theorem setHead_tracker (r : Receiver) : (setHead r n).tracker = n.tracker := by rw [setHead]
@[simp] theorem setHead_eq (r : Receiver) : (setHead r n).eq = n.eq := by rw [setHead]
@[simp] theorem setHead_ramps (r : Receiver) : (setHead r n).ramps = n.ramps := by rw [setHead]
@[simp] theorem setHead_guards (r : Receiver) : (setHead r n).guards = n.guards := by rw [setHead]
@[simp] theorem setHead_settingLane (r : Receiver) : (setHead r n).settingLane = n.settingLane := by rw [setHead]
@[simp] theorem setHead_liveLane (r : Receiver) : (setHead r n).liveLane = n.liveLane := by rw [setHead]
@[simp] theorem setHead_replies (r : Receiver) : (setHead r n).replies = n.replies := by rw [setHead]
@[simp] theorem setHead_merger (r : Receiver) : (setHead r n).merger = n.merger := by rw [setHead]
@[simp] theorem setHead_events (r : Receiver) : (setHead r n).events = n.events := by rw [setHead]
@[simp] theorem setHead_boundary (r : Receiver) : (setHead r n).boundary = n.boundary := by rw [setHead]
@[simp] theorem setHead_choice (r : Receiver) : (setHead r n).choice = n.choice := by rw [setHead]

@[simp] theorem setAmp_control (r : Receiver) : (setAmp r n).control = n.control := by rw [setAmp]
@[simp] theorem setAmp_link (r : Receiver) : (setAmp r n).link = { n.link with amp := r } := by rw [setAmp]
@[simp] theorem setAmp_tables (r : Receiver) : (setAmp r n).tables = n.tables := by rw [setAmp]
@[simp] theorem setAmp_live (r : Receiver) : (setAmp r n).live = n.live := by rw [setAmp]
@[simp] theorem setAmp_detectors (r : Receiver) : (setAmp r n).detectors = n.detectors := by rw [setAmp]
@[simp] theorem setAmp_levels (r : Receiver) : (setAmp r n).levels = n.levels := by rw [setAmp]
@[simp] theorem setAmp_tracker (r : Receiver) : (setAmp r n).tracker = n.tracker := by rw [setAmp]
@[simp] theorem setAmp_eq (r : Receiver) : (setAmp r n).eq = n.eq := by rw [setAmp]
@[simp] theorem setAmp_ramps (r : Receiver) : (setAmp r n).ramps = n.ramps := by rw [setAmp]
@[simp] theorem setAmp_guards (r : Receiver) : (setAmp r n).guards = n.guards := by rw [setAmp]
@[simp] theorem setAmp_settingLane (r : Receiver) : (setAmp r n).settingLane = n.settingLane := by rw [setAmp]
@[simp] theorem setAmp_liveLane (r : Receiver) : (setAmp r n).liveLane = n.liveLane := by rw [setAmp]
@[simp] theorem setAmp_replies (r : Receiver) : (setAmp r n).replies = n.replies := by rw [setAmp]
@[simp] theorem setAmp_merger (r : Receiver) : (setAmp r n).merger = n.merger := by rw [setAmp]
@[simp] theorem setAmp_events (r : Receiver) : (setAmp r n).events = n.events := by rw [setAmp]
@[simp] theorem setAmp_boundary (r : Receiver) : (setAmp r n).boundary = n.boundary := by rw [setAmp]
@[simp] theorem setAmp_choice (r : Receiver) : (setAmp r n).choice = n.choice := by rw [setAmp]

@[simp] theorem setMismatch_control (m : Nat) : (setMismatch m n).control = n.control := by rw [setMismatch]
@[simp] theorem setMismatch_link (m : Nat) : (setMismatch m n).link = { n.link with mismatch := m } := by rw [setMismatch]
@[simp] theorem setMismatch_tables (m : Nat) : (setMismatch m n).tables = n.tables := by rw [setMismatch]
@[simp] theorem setMismatch_live (m : Nat) : (setMismatch m n).live = n.live := by rw [setMismatch]
@[simp] theorem setMismatch_detectors (m : Nat) : (setMismatch m n).detectors = n.detectors := by rw [setMismatch]
@[simp] theorem setMismatch_levels (m : Nat) : (setMismatch m n).levels = n.levels := by rw [setMismatch]
@[simp] theorem setMismatch_tracker (m : Nat) : (setMismatch m n).tracker = n.tracker := by rw [setMismatch]
@[simp] theorem setMismatch_eq (m : Nat) : (setMismatch m n).eq = n.eq := by rw [setMismatch]
@[simp] theorem setMismatch_ramps (m : Nat) : (setMismatch m n).ramps = n.ramps := by rw [setMismatch]
@[simp] theorem setMismatch_guards (m : Nat) : (setMismatch m n).guards = n.guards := by rw [setMismatch]
@[simp] theorem setMismatch_settingLane (m : Nat) : (setMismatch m n).settingLane = n.settingLane := by rw [setMismatch]
@[simp] theorem setMismatch_liveLane (m : Nat) : (setMismatch m n).liveLane = n.liveLane := by rw [setMismatch]
@[simp] theorem setMismatch_replies (m : Nat) : (setMismatch m n).replies = n.replies := by rw [setMismatch]
@[simp] theorem setMismatch_merger (m : Nat) : (setMismatch m n).merger = n.merger := by rw [setMismatch]
@[simp] theorem setMismatch_events (m : Nat) : (setMismatch m n).events = n.events := by rw [setMismatch]
@[simp] theorem setMismatch_boundary (m : Nat) : (setMismatch m n).boundary = n.boundary := by rw [setMismatch]
@[simp] theorem setMismatch_choice (m : Nat) : (setMismatch m n).choice = n.choice := by rw [setMismatch]

@[simp] theorem setCandidate_control (c : Option Code) : (setCandidate c n).control = n.control := by rw [setCandidate]
@[simp] theorem setCandidate_link (c : Option Code) : (setCandidate c n).link = { n.link with candidate := c } := by rw [setCandidate]
@[simp] theorem setCandidate_tables (c : Option Code) : (setCandidate c n).tables = n.tables := by rw [setCandidate]
@[simp] theorem setCandidate_live (c : Option Code) : (setCandidate c n).live = n.live := by rw [setCandidate]
@[simp] theorem setCandidate_detectors (c : Option Code) : (setCandidate c n).detectors = n.detectors := by rw [setCandidate]
@[simp] theorem setCandidate_levels (c : Option Code) : (setCandidate c n).levels = n.levels := by rw [setCandidate]
@[simp] theorem setCandidate_tracker (c : Option Code) : (setCandidate c n).tracker = n.tracker := by rw [setCandidate]
@[simp] theorem setCandidate_eq (c : Option Code) : (setCandidate c n).eq = n.eq := by rw [setCandidate]
@[simp] theorem setCandidate_ramps (c : Option Code) : (setCandidate c n).ramps = n.ramps := by rw [setCandidate]
@[simp] theorem setCandidate_guards (c : Option Code) : (setCandidate c n).guards = n.guards := by rw [setCandidate]
@[simp] theorem setCandidate_settingLane (c : Option Code) : (setCandidate c n).settingLane = n.settingLane := by rw [setCandidate]
@[simp] theorem setCandidate_liveLane (c : Option Code) : (setCandidate c n).liveLane = n.liveLane := by rw [setCandidate]
@[simp] theorem setCandidate_replies (c : Option Code) : (setCandidate c n).replies = n.replies := by rw [setCandidate]
@[simp] theorem setCandidate_merger (c : Option Code) : (setCandidate c n).merger = n.merger := by rw [setCandidate]
@[simp] theorem setCandidate_events (c : Option Code) : (setCandidate c n).events = n.events := by rw [setCandidate]
@[simp] theorem setCandidate_boundary (c : Option Code) : (setCandidate c n).boundary = n.boundary := by rw [setCandidate]
@[simp] theorem setCandidate_choice (c : Option Code) : (setCandidate c n).choice = n.choice := by rw [setCandidate]

@[simp] theorem setAccepted_control (c : Code) : (setAccepted c n).control = n.control := by rw [setAccepted]
@[simp] theorem setAccepted_link (c : Code) : (setAccepted c n).link = { n.link with accepted := c, candidate := some c } := by rw [setAccepted]
@[simp] theorem setAccepted_tables (c : Code) : (setAccepted c n).tables = n.tables := by rw [setAccepted]
@[simp] theorem setAccepted_live (c : Code) : (setAccepted c n).live = n.live := by rw [setAccepted]
@[simp] theorem setAccepted_detectors (c : Code) : (setAccepted c n).detectors = n.detectors := by rw [setAccepted]
@[simp] theorem setAccepted_levels (c : Code) : (setAccepted c n).levels = n.levels := by rw [setAccepted]
@[simp] theorem setAccepted_tracker (c : Code) : (setAccepted c n).tracker = n.tracker := by rw [setAccepted]
@[simp] theorem setAccepted_eq (c : Code) : (setAccepted c n).eq = n.eq := by rw [setAccepted]
@[simp] theorem setAccepted_ramps (c : Code) : (setAccepted c n).ramps = n.ramps := by rw [setAccepted]
@[simp] theorem setAccepted_guards (c : Code) : (setAccepted c n).guards = n.guards := by rw [setAccepted]
@[simp] theorem setAccepted_settingLane (c : Code) : (setAccepted c n).settingLane = n.settingLane := by rw [setAccepted]
@[simp] theorem setAccepted_liveLane (c : Code) : (setAccepted c n).liveLane = n.liveLane := by rw [setAccepted]
@[simp] theorem setAccepted_replies (c : Code) : (setAccepted c n).replies = n.replies := by rw [setAccepted]
@[simp] theorem setAccepted_merger (c : Code) : (setAccepted c n).merger = n.merger := by rw [setAccepted]
@[simp] theorem setAccepted_events (c : Code) : (setAccepted c n).events = n.events := by rw [setAccepted]
@[simp] theorem setAccepted_boundary (c : Code) : (setAccepted c n).boundary = n.boundary := by rw [setAccepted]
@[simp] theorem setAccepted_choice (c : Code) : (setAccepted c n).choice = n.choice := by rw [setAccepted]

@[simp] theorem setTables_control (f : Tables → Tables) : (setTables f n).control = n.control := by rw [setTables]
@[simp] theorem setTables_link (f : Tables → Tables) : (setTables f n).link = n.link := by rw [setTables]
@[simp] theorem setTables_tables (f : Tables → Tables) : (setTables f n).tables = f n.tables := by rw [setTables]
@[simp] theorem setTables_live (f : Tables → Tables) : (setTables f n).live = n.live := by rw [setTables]
@[simp] theorem setTables_detectors (f : Tables → Tables) : (setTables f n).detectors = n.detectors := by rw [setTables]
@[simp] theorem setTables_levels (f : Tables → Tables) : (setTables f n).levels = n.levels := by rw [setTables]
@[simp] theorem setTables_tracker (f : Tables → Tables) : (setTables f n).tracker = n.tracker := by rw [setTables]
@[simp] theorem setTables_eq (f : Tables → Tables) : (setTables f n).eq = n.eq := by rw [setTables]
@[simp] theorem setTables_ramps (f : Tables → Tables) : (setTables f n).ramps = n.ramps := by rw [setTables]
@[simp] theorem setTables_guards (f : Tables → Tables) : (setTables f n).guards = n.guards := by rw [setTables]
@[simp] theorem setTables_settingLane (f : Tables → Tables) : (setTables f n).settingLane = n.settingLane := by rw [setTables]
@[simp] theorem setTables_liveLane (f : Tables → Tables) : (setTables f n).liveLane = n.liveLane := by rw [setTables]
@[simp] theorem setTables_replies (f : Tables → Tables) : (setTables f n).replies = n.replies := by rw [setTables]
@[simp] theorem setTables_merger (f : Tables → Tables) : (setTables f n).merger = n.merger := by rw [setTables]
@[simp] theorem setTables_events (f : Tables → Tables) : (setTables f n).events = n.events := by rw [setTables]
@[simp] theorem setTables_boundary (f : Tables → Tables) : (setTables f n).boundary = n.boundary := by rw [setTables]
@[simp] theorem setTables_choice (f : Tables → Tables) : (setTables f n).choice = n.choice := by rw [setTables]

@[simp] theorem modifyRecord_control (k : Fin 24) (f : EqRecord → EqRecord) : (modifyRecord k f n).control = n.control := by rw [modifyRecord]
@[simp] theorem modifyRecord_link (k : Fin 24) (f : EqRecord → EqRecord) : (modifyRecord k f n).link = n.link := by rw [modifyRecord]
@[simp] theorem modifyRecord_tables (k : Fin 24) (f : EqRecord → EqRecord) : (modifyRecord k f n).tables = n.tables := by rw [modifyRecord]
@[simp] theorem modifyRecord_live (k : Fin 24) (f : EqRecord → EqRecord) : (modifyRecord k f n).live = n.live := by rw [modifyRecord]
@[simp] theorem modifyRecord_detectors (k : Fin 24) (f : EqRecord → EqRecord) : (modifyRecord k f n).detectors = n.detectors := by rw [modifyRecord]
@[simp] theorem modifyRecord_levels (k : Fin 24) (f : EqRecord → EqRecord) : (modifyRecord k f n).levels = n.levels := by rw [modifyRecord]
@[simp] theorem modifyRecord_tracker (k : Fin 24) (f : EqRecord → EqRecord) : (modifyRecord k f n).tracker = n.tracker := by rw [modifyRecord]
@[simp] theorem modifyRecord_eq (k : Fin 24) (f : EqRecord → EqRecord) : (modifyRecord k f n).eq = { n.eq with records := modifyVec k f n.eq.records } := by rw [modifyRecord]
@[simp] theorem modifyRecord_ramps (k : Fin 24) (f : EqRecord → EqRecord) : (modifyRecord k f n).ramps = n.ramps := by rw [modifyRecord]
@[simp] theorem modifyRecord_guards (k : Fin 24) (f : EqRecord → EqRecord) : (modifyRecord k f n).guards = n.guards := by rw [modifyRecord]
@[simp] theorem modifyRecord_settingLane (k : Fin 24) (f : EqRecord → EqRecord) : (modifyRecord k f n).settingLane = n.settingLane := by rw [modifyRecord]
@[simp] theorem modifyRecord_liveLane (k : Fin 24) (f : EqRecord → EqRecord) : (modifyRecord k f n).liveLane = n.liveLane := by rw [modifyRecord]
@[simp] theorem modifyRecord_replies (k : Fin 24) (f : EqRecord → EqRecord) : (modifyRecord k f n).replies = n.replies := by rw [modifyRecord]
@[simp] theorem modifyRecord_merger (k : Fin 24) (f : EqRecord → EqRecord) : (modifyRecord k f n).merger = n.merger := by rw [modifyRecord]
@[simp] theorem modifyRecord_events (k : Fin 24) (f : EqRecord → EqRecord) : (modifyRecord k f n).events = n.events := by rw [modifyRecord]
@[simp] theorem modifyRecord_boundary (k : Fin 24) (f : EqRecord → EqRecord) : (modifyRecord k f n).boundary = n.boundary := by rw [modifyRecord]
@[simp] theorem modifyRecord_choice (k : Fin 24) (f : EqRecord → EqRecord) : (modifyRecord k f n).choice = n.choice := by rw [modifyRecord]

@[simp] theorem putSlot_control (i : Fin 8) (h : Option Held) : (putSlot i h n).control = n.control := by rw [putSlot]
@[simp] theorem putSlot_link (i : Fin 8) (h : Option Held) : (putSlot i h n).link = n.link := by rw [putSlot]
@[simp] theorem putSlot_tables (i : Fin 8) (h : Option Held) : (putSlot i h n).tables = n.tables := by rw [putSlot]
@[simp] theorem putSlot_live (i : Fin 8) (h : Option Held) : (putSlot i h n).live = n.live := by rw [putSlot]
@[simp] theorem putSlot_detectors (i : Fin 8) (h : Option Held) : (putSlot i h n).detectors = n.detectors := by rw [putSlot]
@[simp] theorem putSlot_levels (i : Fin 8) (h : Option Held) : (putSlot i h n).levels = n.levels := by rw [putSlot]
@[simp] theorem putSlot_tracker (i : Fin 8) (h : Option Held) : (putSlot i h n).tracker = n.tracker := by rw [putSlot]
@[simp] theorem putSlot_eq (i : Fin 8) (h : Option Held) : (putSlot i h n).eq = { n.eq with slots := putVec i h n.eq.slots } := by rw [putSlot]
@[simp] theorem putSlot_ramps (i : Fin 8) (h : Option Held) : (putSlot i h n).ramps = n.ramps := by rw [putSlot]
@[simp] theorem putSlot_guards (i : Fin 8) (h : Option Held) : (putSlot i h n).guards = n.guards := by rw [putSlot]
@[simp] theorem putSlot_settingLane (i : Fin 8) (h : Option Held) : (putSlot i h n).settingLane = n.settingLane := by rw [putSlot]
@[simp] theorem putSlot_liveLane (i : Fin 8) (h : Option Held) : (putSlot i h n).liveLane = n.liveLane := by rw [putSlot]
@[simp] theorem putSlot_replies (i : Fin 8) (h : Option Held) : (putSlot i h n).replies = n.replies := by rw [putSlot]
@[simp] theorem putSlot_merger (i : Fin 8) (h : Option Held) : (putSlot i h n).merger = n.merger := by rw [putSlot]
@[simp] theorem putSlot_events (i : Fin 8) (h : Option Held) : (putSlot i h n).events = n.events := by rw [putSlot]
@[simp] theorem putSlot_boundary (i : Fin 8) (h : Option Held) : (putSlot i h n).boundary = n.boundary := by rw [putSlot]
@[simp] theorem putSlot_choice (i : Fin 8) (h : Option Held) : (putSlot i h n).choice = n.choice := by rw [putSlot]

@[simp] theorem silence_control : (silence n).control = n.control := by rw [silence]
@[simp] theorem silence_link : (silence n).link = n.link := by rw [silence]
@[simp] theorem silence_tables : (silence n).tables = n.tables := by rw [silence]
@[simp] theorem silence_live : (silence n).live = n.live := by rw [silence]
@[simp] theorem silence_detectors : (silence n).detectors = n.detectors := by rw [silence]
@[simp] theorem silence_levels : (silence n).levels = silenceLevels n.levels := by rw [silence]
@[simp] theorem silence_tracker : (silence n).tracker = n.tracker := by rw [silence]
@[simp] theorem silence_eq : (silence n).eq = settleEq n.eq := by rw [silence]
@[simp] theorem silence_ramps : (silence n).ramps = n.ramps := by rw [silence]
@[simp] theorem silence_guards : (silence n).guards = n.guards := by rw [silence]
@[simp] theorem silence_settingLane : (silence n).settingLane = n.settingLane := by rw [silence]
@[simp] theorem silence_liveLane : (silence n).liveLane = n.liveLane := by rw [silence]
@[simp] theorem silence_replies : (silence n).replies = n.replies := by rw [silence]
@[simp] theorem silence_merger : (silence n).merger = n.merger := by rw [silence]
@[simp] theorem silence_events : (silence n).events = n.events := by rw [silence]
@[simp] theorem silence_boundary : (silence n).boundary = n.boundary := by rw [silence]
@[simp] theorem silence_choice : (silence n).choice = n.choice := by rw [silence]

@[simp] theorem postReply_control (m : Message) (p : List Byte) : (postReply m p n).control = n.control := by rw [postReply]
@[simp] theorem postReply_link (m : Message) (p : List Byte) : (postReply m p n).link = n.link := by rw [postReply]
@[simp] theorem postReply_tables (m : Message) (p : List Byte) : (postReply m p n).tables = n.tables := by rw [postReply]
@[simp] theorem postReply_live (m : Message) (p : List Byte) : (postReply m p n).live = n.live := by rw [postReply]
@[simp] theorem postReply_detectors (m : Message) (p : List Byte) : (postReply m p n).detectors = n.detectors := by rw [postReply]
@[simp] theorem postReply_levels (m : Message) (p : List Byte) : (postReply m p n).levels = n.levels := by rw [postReply]
@[simp] theorem postReply_tracker (m : Message) (p : List Byte) : (postReply m p n).tracker = n.tracker := by rw [postReply]
@[simp] theorem postReply_eq (m : Message) (p : List Byte) : (postReply m p n).eq = n.eq := by rw [postReply]
@[simp] theorem postReply_ramps (m : Message) (p : List Byte) : (postReply m p n).ramps = n.ramps := by rw [postReply]
@[simp] theorem postReply_guards (m : Message) (p : List Byte) : (postReply m p n).guards = n.guards := by rw [postReply]
@[simp] theorem postReply_settingLane (m : Message) (p : List Byte) : (postReply m p n).settingLane = n.settingLane := by rw [postReply]
@[simp] theorem postReply_liveLane (m : Message) (p : List Byte) : (postReply m p n).liveLane = n.liveLane := by rw [postReply]
@[simp] theorem postReply_replies (m : Message) (p : List Byte) : (postReply m p n).replies = n.replies ++ [{ dest := 0xE, origin := addressNibble n, kind := m.kind + 0x80, tag := m.tag, payload := p }] := by rw [postReply]
@[simp] theorem postReply_merger (m : Message) (p : List Byte) : (postReply m p n).merger = n.merger := by rw [postReply]
@[simp] theorem postReply_events (m : Message) (p : List Byte) : (postReply m p n).events = n.events := by rw [postReply]
@[simp] theorem postReply_boundary (m : Message) (p : List Byte) : (postReply m p n).boundary = n.boundary := by rw [postReply]
@[simp] theorem postReply_choice (m : Message) (p : List Byte) : (postReply m p n).choice = n.choice := by rw [postReply]

@[simp] theorem keepFormed_control (f : DownFrame) : (keepFormed f n).control = n.control := by rw [keepFormed]
@[simp] theorem keepFormed_link (f : DownFrame) : (keepFormed f n).link = { n.link with formed1 := some f, lastHop := f.hop } := by rw [keepFormed]
@[simp] theorem keepFormed_tables (f : DownFrame) : (keepFormed f n).tables = n.tables := by rw [keepFormed]
@[simp] theorem keepFormed_live (f : DownFrame) : (keepFormed f n).live = n.live := by rw [keepFormed]
@[simp] theorem keepFormed_detectors (f : DownFrame) : (keepFormed f n).detectors = n.detectors := by rw [keepFormed]
@[simp] theorem keepFormed_levels (f : DownFrame) : (keepFormed f n).levels = n.levels := by rw [keepFormed]
@[simp] theorem keepFormed_tracker (f : DownFrame) : (keepFormed f n).tracker = n.tracker := by rw [keepFormed]
@[simp] theorem keepFormed_eq (f : DownFrame) : (keepFormed f n).eq = n.eq := by rw [keepFormed]
@[simp] theorem keepFormed_ramps (f : DownFrame) : (keepFormed f n).ramps = n.ramps := by rw [keepFormed]
@[simp] theorem keepFormed_guards (f : DownFrame) : (keepFormed f n).guards = n.guards := by rw [keepFormed]
@[simp] theorem keepFormed_settingLane (f : DownFrame) : (keepFormed f n).settingLane = n.settingLane := by rw [keepFormed]
@[simp] theorem keepFormed_liveLane (f : DownFrame) : (keepFormed f n).liveLane = n.liveLane := by rw [keepFormed]
@[simp] theorem keepFormed_replies (f : DownFrame) : (keepFormed f n).replies = n.replies := by rw [keepFormed]
@[simp] theorem keepFormed_merger (f : DownFrame) : (keepFormed f n).merger = n.merger := by rw [keepFormed]
@[simp] theorem keepFormed_events (f : DownFrame) : (keepFormed f n).events = n.events := by rw [keepFormed]
@[simp] theorem keepFormed_boundary (f : DownFrame) : (keepFormed f n).boundary = n.boundary := by rw [keepFormed]
@[simp] theorem keepFormed_choice (f : DownFrame) : (keepFormed f n).choice = n.choice := by rw [keepFormed]

@[simp] theorem advanceDelays_control : (advanceDelays n).control = n.control := by rw [advanceDelays]
@[simp] theorem advanceDelays_link : (advanceDelays n).link = { n.link with ampTx := n.link.formed2, formed2 := n.link.formed1, formed1 := none, upPrev := n.link.upNow, upNow := none } := by rw [advanceDelays]
@[simp] theorem advanceDelays_tables : (advanceDelays n).tables = n.tables := by rw [advanceDelays]
@[simp] theorem advanceDelays_live : (advanceDelays n).live = n.live := by rw [advanceDelays]
@[simp] theorem advanceDelays_detectors : (advanceDelays n).detectors = n.detectors := by rw [advanceDelays]
@[simp] theorem advanceDelays_levels : (advanceDelays n).levels = n.levels := by rw [advanceDelays]
@[simp] theorem advanceDelays_tracker : (advanceDelays n).tracker = n.tracker := by rw [advanceDelays]
@[simp] theorem advanceDelays_eq : (advanceDelays n).eq = n.eq := by rw [advanceDelays]
@[simp] theorem advanceDelays_ramps : (advanceDelays n).ramps = n.ramps := by rw [advanceDelays]
@[simp] theorem advanceDelays_guards : (advanceDelays n).guards = n.guards := by rw [advanceDelays]
@[simp] theorem advanceDelays_settingLane : (advanceDelays n).settingLane = n.settingLane := by rw [advanceDelays]
@[simp] theorem advanceDelays_liveLane : (advanceDelays n).liveLane = n.liveLane := by rw [advanceDelays]
@[simp] theorem advanceDelays_replies : (advanceDelays n).replies = n.replies := by rw [advanceDelays]
@[simp] theorem advanceDelays_merger : (advanceDelays n).merger = n.merger := by rw [advanceDelays]
@[simp] theorem advanceDelays_events : (advanceDelays n).events = n.events := by rw [advanceDelays]
@[simp] theorem advanceDelays_boundary : (advanceDelays n).boundary = n.boundary := by rw [advanceDelays]
@[simp] theorem advanceDelays_choice : (advanceDelays n).choice = n.choice := by rw [advanceDelays]

@[simp] theorem handOverMarks_control : (handOverMarks n).control = n.control := by rw [handOverMarks]
@[simp] theorem handOverMarks_link : (handOverMarks n).link = n.link := by rw [handOverMarks]
@[simp] theorem handOverMarks_tables : (handOverMarks n).tables = n.tables := by rw [handOverMarks]
@[simp] theorem handOverMarks_live : (handOverMarks n).live = n.live := by rw [handOverMarks]
@[simp] theorem handOverMarks_detectors : (handOverMarks n).detectors = n.detectors := by rw [handOverMarks]
@[simp] theorem handOverMarks_tracker : (handOverMarks n).tracker = n.tracker := by rw [handOverMarks]
@[simp] theorem handOverMarks_eq : (handOverMarks n).eq = n.eq := by rw [handOverMarks]
@[simp] theorem handOverMarks_ramps : (handOverMarks n).ramps = n.ramps := by rw [handOverMarks]
@[simp] theorem handOverMarks_guards : (handOverMarks n).guards = n.guards := by rw [handOverMarks]
@[simp] theorem handOverMarks_settingLane : (handOverMarks n).settingLane = n.settingLane := by rw [handOverMarks]
@[simp] theorem handOverMarks_liveLane : (handOverMarks n).liveLane = n.liveLane := by rw [handOverMarks]
@[simp] theorem handOverMarks_replies : (handOverMarks n).replies = n.replies := by rw [handOverMarks]
@[simp] theorem handOverMarks_merger : (handOverMarks n).merger = n.merger := by rw [handOverMarks]
@[simp] theorem handOverMarks_events : (handOverMarks n).events = n.events := by rw [handOverMarks]
@[simp] theorem handOverMarks_boundary : (handOverMarks n).boundary = n.boundary := by rw [handOverMarks]
@[simp] theorem handOverMarks_choice : (handOverMarks n).choice = n.choice := by rw [handOverMarks]

@[simp] theorem ownUpstream_control : (ownUpstream n).control = n.control := by rw [ownUpstream]
@[simp] theorem ownUpstream_tables : (ownUpstream n).tables = n.tables := by rw [ownUpstream]
@[simp] theorem ownUpstream_live : (ownUpstream n).live = n.live := by rw [ownUpstream]
@[simp] theorem ownUpstream_detectors : (ownUpstream n).detectors = n.detectors := by rw [ownUpstream]
@[simp] theorem ownUpstream_levels : (ownUpstream n).levels = n.levels := by rw [ownUpstream]
@[simp] theorem ownUpstream_tracker : (ownUpstream n).tracker = n.tracker := by rw [ownUpstream]
@[simp] theorem ownUpstream_eq : (ownUpstream n).eq = n.eq := by rw [ownUpstream]
@[simp] theorem ownUpstream_ramps : (ownUpstream n).ramps = n.ramps := by rw [ownUpstream]
@[simp] theorem ownUpstream_guards : (ownUpstream n).guards = n.guards := by rw [ownUpstream]
@[simp] theorem ownUpstream_settingLane : (ownUpstream n).settingLane = n.settingLane := by rw [ownUpstream]
@[simp] theorem ownUpstream_liveLane : (ownUpstream n).liveLane = n.liveLane := by rw [ownUpstream]
@[simp] theorem ownUpstream_events : (ownUpstream n).events = n.events := by rw [ownUpstream]
@[simp] theorem ownUpstream_boundary : (ownUpstream n).boundary = n.boundary := by rw [ownUpstream]
@[simp] theorem ownUpstream_choice : (ownUpstream n).choice = n.choice := by rw [ownUpstream]

@[simp] theorem passiveUpstream_control : (passiveUpstream n).control = n.control := by rw [passiveUpstream]
@[simp] theorem passiveUpstream_tables : (passiveUpstream n).tables = n.tables := by rw [passiveUpstream]
@[simp] theorem passiveUpstream_live : (passiveUpstream n).live = n.live := by rw [passiveUpstream]
@[simp] theorem passiveUpstream_detectors : (passiveUpstream n).detectors = n.detectors := by rw [passiveUpstream]
@[simp] theorem passiveUpstream_levels : (passiveUpstream n).levels = n.levels := by rw [passiveUpstream]
@[simp] theorem passiveUpstream_tracker : (passiveUpstream n).tracker = n.tracker := by rw [passiveUpstream]
@[simp] theorem passiveUpstream_eq : (passiveUpstream n).eq = n.eq := by rw [passiveUpstream]
@[simp] theorem passiveUpstream_ramps : (passiveUpstream n).ramps = n.ramps := by rw [passiveUpstream]
@[simp] theorem passiveUpstream_guards : (passiveUpstream n).guards = n.guards := by rw [passiveUpstream]
@[simp] theorem passiveUpstream_settingLane : (passiveUpstream n).settingLane = n.settingLane := by rw [passiveUpstream]
@[simp] theorem passiveUpstream_liveLane : (passiveUpstream n).liveLane = n.liveLane := by rw [passiveUpstream]
@[simp] theorem passiveUpstream_replies : (passiveUpstream n).replies = n.replies := by rw [passiveUpstream]
@[simp] theorem passiveUpstream_merger : (passiveUpstream n).merger = n.merger := by rw [passiveUpstream]
@[simp] theorem passiveUpstream_events : (passiveUpstream n).events = n.events := by rw [passiveUpstream]
@[simp] theorem passiveUpstream_boundary : (passiveUpstream n).boundary = n.boundary := by rw [passiveUpstream]
@[simp] theorem passiveUpstream_choice : (passiveUpstream n).choice = n.choice := by rw [passiveUpstream]

@[simp] theorem takePeaks_control (slots : Vector Sample 32) : (takePeaks slots n).control = n.control := by rw [takePeaks]
@[simp] theorem takePeaks_link (slots : Vector Sample 32) : (takePeaks slots n).link = n.link := by rw [takePeaks]
@[simp] theorem takePeaks_tables (slots : Vector Sample 32) : (takePeaks slots n).tables = n.tables := by rw [takePeaks]
@[simp] theorem takePeaks_live (slots : Vector Sample 32) : (takePeaks slots n).live = n.live := by rw [takePeaks]
@[simp] theorem takePeaks_levels (slots : Vector Sample 32) : (takePeaks slots n).levels = n.levels := by rw [takePeaks]
@[simp] theorem takePeaks_tracker (slots : Vector Sample 32) : (takePeaks slots n).tracker = n.tracker := by rw [takePeaks]
@[simp] theorem takePeaks_eq (slots : Vector Sample 32) : (takePeaks slots n).eq = n.eq := by rw [takePeaks]
@[simp] theorem takePeaks_ramps (slots : Vector Sample 32) : (takePeaks slots n).ramps = n.ramps := by rw [takePeaks]
@[simp] theorem takePeaks_guards (slots : Vector Sample 32) : (takePeaks slots n).guards = n.guards := by rw [takePeaks]
@[simp] theorem takePeaks_settingLane (slots : Vector Sample 32) : (takePeaks slots n).settingLane = n.settingLane := by rw [takePeaks]
@[simp] theorem takePeaks_liveLane (slots : Vector Sample 32) : (takePeaks slots n).liveLane = n.liveLane := by rw [takePeaks]
@[simp] theorem takePeaks_replies (slots : Vector Sample 32) : (takePeaks slots n).replies = n.replies := by rw [takePeaks]
@[simp] theorem takePeaks_merger (slots : Vector Sample 32) : (takePeaks slots n).merger = n.merger := by rw [takePeaks]
@[simp] theorem takePeaks_events (slots : Vector Sample 32) : (takePeaks slots n).events = n.events := by rw [takePeaks]
@[simp] theorem takePeaks_boundary (slots : Vector Sample 32) : (takePeaks slots n).boundary = n.boundary := by rw [takePeaks]
@[simp] theorem takePeaks_choice (slots : Vector Sample 32) : (takePeaks slots n).choice = n.choice := by rw [takePeaks]

@[simp] theorem countSlots_control : (countSlots n).control = n.control := by rw [countSlots]
@[simp] theorem countSlots_link : (countSlots n).link = n.link := by rw [countSlots]
@[simp] theorem countSlots_tables : (countSlots n).tables = n.tables := by rw [countSlots]
@[simp] theorem countSlots_live : (countSlots n).live = n.live := by rw [countSlots]
@[simp] theorem countSlots_detectors : (countSlots n).detectors = n.detectors := by rw [countSlots]
@[simp] theorem countSlots_levels : (countSlots n).levels = n.levels := by rw [countSlots]
@[simp] theorem countSlots_tracker : (countSlots n).tracker = n.tracker := by rw [countSlots]
@[simp] theorem countSlots_ramps : (countSlots n).ramps = n.ramps := by rw [countSlots]
@[simp] theorem countSlots_guards : (countSlots n).guards = n.guards := by rw [countSlots]
@[simp] theorem countSlots_settingLane : (countSlots n).settingLane = n.settingLane := by rw [countSlots]
@[simp] theorem countSlots_liveLane : (countSlots n).liveLane = n.liveLane := by rw [countSlots]
@[simp] theorem countSlots_replies : (countSlots n).replies = n.replies := by rw [countSlots]
@[simp] theorem countSlots_merger : (countSlots n).merger = n.merger := by rw [countSlots]
@[simp] theorem countSlots_events : (countSlots n).events = n.events := by rw [countSlots]
@[simp] theorem countSlots_boundary : (countSlots n).boundary = n.boundary := by rw [countSlots]
@[simp] theorem countSlots_choice : (countSlots n).choice = n.choice := by rw [countSlots]

@[simp] theorem storeFrames_control (fs : Vector (Option SpeakerFrame) 24) : (storeFrames fs n).control = n.control := by rw [storeFrames]
@[simp] theorem storeFrames_link (fs : Vector (Option SpeakerFrame) 24) : (storeFrames fs n).link = n.link := by rw [storeFrames]
@[simp] theorem storeFrames_tables (fs : Vector (Option SpeakerFrame) 24) : (storeFrames fs n).tables = n.tables := by rw [storeFrames]
@[simp] theorem storeFrames_live (fs : Vector (Option SpeakerFrame) 24) : (storeFrames fs n).live = n.live := by rw [storeFrames]
@[simp] theorem storeFrames_detectors (fs : Vector (Option SpeakerFrame) 24) : (storeFrames fs n).detectors = n.detectors := by rw [storeFrames]
@[simp] theorem storeFrames_tracker (fs : Vector (Option SpeakerFrame) 24) : (storeFrames fs n).tracker = n.tracker := by rw [storeFrames]
@[simp] theorem storeFrames_ramps (fs : Vector (Option SpeakerFrame) 24) : (storeFrames fs n).ramps = n.ramps := by rw [storeFrames]
@[simp] theorem storeFrames_guards (fs : Vector (Option SpeakerFrame) 24) : (storeFrames fs n).guards = n.guards := by rw [storeFrames]
@[simp] theorem storeFrames_settingLane (fs : Vector (Option SpeakerFrame) 24) : (storeFrames fs n).settingLane = n.settingLane := by rw [storeFrames]
@[simp] theorem storeFrames_liveLane (fs : Vector (Option SpeakerFrame) 24) : (storeFrames fs n).liveLane = n.liveLane := by rw [storeFrames]
@[simp] theorem storeFrames_replies (fs : Vector (Option SpeakerFrame) 24) : (storeFrames fs n).replies = n.replies := by rw [storeFrames]
@[simp] theorem storeFrames_merger (fs : Vector (Option SpeakerFrame) 24) : (storeFrames fs n).merger = n.merger := by rw [storeFrames]
@[simp] theorem storeFrames_events (fs : Vector (Option SpeakerFrame) 24) : (storeFrames fs n).events = n.events := by rw [storeFrames]
@[simp] theorem storeFrames_boundary (fs : Vector (Option SpeakerFrame) 24) : (storeFrames fs n).boundary = n.boundary := by rw [storeFrames]
@[simp] theorem storeFrames_choice (fs : Vector (Option SpeakerFrame) 24) : (storeFrames fs n).choice = n.choice := by rw [storeFrames]

@[simp] theorem disableLevels_control (k : Fin 24) : (disableLevels k n).control = n.control := by rw [disableLevels]
@[simp] theorem disableLevels_link (k : Fin 24) : (disableLevels k n).link = n.link := by rw [disableLevels]
@[simp] theorem disableLevels_tables (k : Fin 24) : (disableLevels k n).tables = n.tables := by rw [disableLevels]
@[simp] theorem disableLevels_live (k : Fin 24) : (disableLevels k n).live = n.live := by rw [disableLevels]
@[simp] theorem disableLevels_detectors (k : Fin 24) : (disableLevels k n).detectors = n.detectors := by rw [disableLevels]
@[simp] theorem disableLevels_tracker (k : Fin 24) : (disableLevels k n).tracker = n.tracker := by rw [disableLevels]
@[simp] theorem disableLevels_eq (k : Fin 24) : (disableLevels k n).eq = n.eq := by rw [disableLevels]
@[simp] theorem disableLevels_ramps (k : Fin 24) : (disableLevels k n).ramps = n.ramps := by rw [disableLevels]
@[simp] theorem disableLevels_guards (k : Fin 24) : (disableLevels k n).guards = n.guards := by rw [disableLevels]
@[simp] theorem disableLevels_settingLane (k : Fin 24) : (disableLevels k n).settingLane = n.settingLane := by rw [disableLevels]
@[simp] theorem disableLevels_liveLane (k : Fin 24) : (disableLevels k n).liveLane = n.liveLane := by rw [disableLevels]
@[simp] theorem disableLevels_replies (k : Fin 24) : (disableLevels k n).replies = n.replies := by rw [disableLevels]
@[simp] theorem disableLevels_merger (k : Fin 24) : (disableLevels k n).merger = n.merger := by rw [disableLevels]
@[simp] theorem disableLevels_events (k : Fin 24) : (disableLevels k n).events = n.events := by rw [disableLevels]
@[simp] theorem disableLevels_boundary (k : Fin 24) : (disableLevels k n).boundary = n.boundary := by rw [disableLevels]
@[simp] theorem disableLevels_choice (k : Fin 24) : (disableLevels k n).choice = n.choice := by rw [disableLevels]

@[simp] theorem clearClipCount_control (k : Fin 24) : (clearClipCount k n).control = n.control := by rw [clearClipCount]
@[simp] theorem clearClipCount_link (k : Fin 24) : (clearClipCount k n).link = n.link := by rw [clearClipCount]
@[simp] theorem clearClipCount_tables (k : Fin 24) : (clearClipCount k n).tables = n.tables := by rw [clearClipCount]
@[simp] theorem clearClipCount_live (k : Fin 24) : (clearClipCount k n).live = n.live := by rw [clearClipCount]
@[simp] theorem clearClipCount_detectors (k : Fin 24) : (clearClipCount k n).detectors = n.detectors := by rw [clearClipCount]
@[simp] theorem clearClipCount_tracker (k : Fin 24) : (clearClipCount k n).tracker = n.tracker := by rw [clearClipCount]
@[simp] theorem clearClipCount_eq (k : Fin 24) : (clearClipCount k n).eq = n.eq := by rw [clearClipCount]
@[simp] theorem clearClipCount_ramps (k : Fin 24) : (clearClipCount k n).ramps = n.ramps := by rw [clearClipCount]
@[simp] theorem clearClipCount_guards (k : Fin 24) : (clearClipCount k n).guards = n.guards := by rw [clearClipCount]
@[simp] theorem clearClipCount_settingLane (k : Fin 24) : (clearClipCount k n).settingLane = n.settingLane := by rw [clearClipCount]
@[simp] theorem clearClipCount_liveLane (k : Fin 24) : (clearClipCount k n).liveLane = n.liveLane := by rw [clearClipCount]
@[simp] theorem clearClipCount_replies (k : Fin 24) : (clearClipCount k n).replies = n.replies := by rw [clearClipCount]
@[simp] theorem clearClipCount_merger (k : Fin 24) : (clearClipCount k n).merger = n.merger := by rw [clearClipCount]
@[simp] theorem clearClipCount_events (k : Fin 24) : (clearClipCount k n).events = n.events := by rw [clearClipCount]
@[simp] theorem clearClipCount_boundary (k : Fin 24) : (clearClipCount k n).boundary = n.boundary := by rw [clearClipCount]
@[simp] theorem clearClipCount_choice (k : Fin 24) : (clearClipCount k n).choice = n.choice := by rw [clearClipCount]

@[simp] theorem modifyZones_control (m : Nat) (f : ZoneLive → ZoneLive) : (modifyZones m f n).control = n.control := by rw [modifyZones]
@[simp] theorem modifyZones_link (m : Nat) (f : ZoneLive → ZoneLive) : (modifyZones m f n).link = n.link := by rw [modifyZones]
@[simp] theorem modifyZones_tables (m : Nat) (f : ZoneLive → ZoneLive) : (modifyZones m f n).tables = n.tables := by rw [modifyZones]
@[simp] theorem modifyZones_detectors (m : Nat) (f : ZoneLive → ZoneLive) : (modifyZones m f n).detectors = n.detectors := by rw [modifyZones]
@[simp] theorem modifyZones_levels (m : Nat) (f : ZoneLive → ZoneLive) : (modifyZones m f n).levels = n.levels := by rw [modifyZones]
@[simp] theorem modifyZones_tracker (m : Nat) (f : ZoneLive → ZoneLive) : (modifyZones m f n).tracker = n.tracker := by rw [modifyZones]
@[simp] theorem modifyZones_eq (m : Nat) (f : ZoneLive → ZoneLive) : (modifyZones m f n).eq = n.eq := by rw [modifyZones]
@[simp] theorem modifyZones_ramps (m : Nat) (f : ZoneLive → ZoneLive) : (modifyZones m f n).ramps = n.ramps := by rw [modifyZones]
@[simp] theorem modifyZones_guards (m : Nat) (f : ZoneLive → ZoneLive) : (modifyZones m f n).guards = n.guards := by rw [modifyZones]
@[simp] theorem modifyZones_settingLane (m : Nat) (f : ZoneLive → ZoneLive) : (modifyZones m f n).settingLane = n.settingLane := by rw [modifyZones]
@[simp] theorem modifyZones_liveLane (m : Nat) (f : ZoneLive → ZoneLive) : (modifyZones m f n).liveLane = n.liveLane := by rw [modifyZones]
@[simp] theorem modifyZones_replies (m : Nat) (f : ZoneLive → ZoneLive) : (modifyZones m f n).replies = n.replies := by rw [modifyZones]
@[simp] theorem modifyZones_merger (m : Nat) (f : ZoneLive → ZoneLive) : (modifyZones m f n).merger = n.merger := by rw [modifyZones]
@[simp] theorem modifyZones_events (m : Nat) (f : ZoneLive → ZoneLive) : (modifyZones m f n).events = n.events := by rw [modifyZones]
@[simp] theorem modifyZones_boundary (m : Nat) (f : ZoneLive → ZoneLive) : (modifyZones m f n).boundary = n.boundary := by rw [modifyZones]
@[simp] theorem modifyZones_choice (m : Nat) (f : ZoneLive → ZoneLive) : (modifyZones m f n).choice = n.choice := by rw [modifyZones]

@[simp] theorem modifyZone_control (z : Fin 4) (f : ZoneLive → ZoneLive) : (modifyZone z f n).control = n.control := by rw [modifyZone]
@[simp] theorem modifyZone_link (z : Fin 4) (f : ZoneLive → ZoneLive) : (modifyZone z f n).link = n.link := by rw [modifyZone]
@[simp] theorem modifyZone_tables (z : Fin 4) (f : ZoneLive → ZoneLive) : (modifyZone z f n).tables = n.tables := by rw [modifyZone]
@[simp] theorem modifyZone_detectors (z : Fin 4) (f : ZoneLive → ZoneLive) : (modifyZone z f n).detectors = n.detectors := by rw [modifyZone]
@[simp] theorem modifyZone_levels (z : Fin 4) (f : ZoneLive → ZoneLive) : (modifyZone z f n).levels = n.levels := by rw [modifyZone]
@[simp] theorem modifyZone_tracker (z : Fin 4) (f : ZoneLive → ZoneLive) : (modifyZone z f n).tracker = n.tracker := by rw [modifyZone]
@[simp] theorem modifyZone_eq (z : Fin 4) (f : ZoneLive → ZoneLive) : (modifyZone z f n).eq = n.eq := by rw [modifyZone]
@[simp] theorem modifyZone_ramps (z : Fin 4) (f : ZoneLive → ZoneLive) : (modifyZone z f n).ramps = n.ramps := by rw [modifyZone]
@[simp] theorem modifyZone_guards (z : Fin 4) (f : ZoneLive → ZoneLive) : (modifyZone z f n).guards = n.guards := by rw [modifyZone]
@[simp] theorem modifyZone_settingLane (z : Fin 4) (f : ZoneLive → ZoneLive) : (modifyZone z f n).settingLane = n.settingLane := by rw [modifyZone]
@[simp] theorem modifyZone_liveLane (z : Fin 4) (f : ZoneLive → ZoneLive) : (modifyZone z f n).liveLane = n.liveLane := by rw [modifyZone]
@[simp] theorem modifyZone_replies (z : Fin 4) (f : ZoneLive → ZoneLive) : (modifyZone z f n).replies = n.replies := by rw [modifyZone]
@[simp] theorem modifyZone_merger (z : Fin 4) (f : ZoneLive → ZoneLive) : (modifyZone z f n).merger = n.merger := by rw [modifyZone]
@[simp] theorem modifyZone_events (z : Fin 4) (f : ZoneLive → ZoneLive) : (modifyZone z f n).events = n.events := by rw [modifyZone]
@[simp] theorem modifyZone_boundary (z : Fin 4) (f : ZoneLive → ZoneLive) : (modifyZone z f n).boundary = n.boundary := by rw [modifyZone]
@[simp] theorem modifyZone_choice (z : Fin 4) (f : ZoneLive → ZoneLive) : (modifyZone z f n).choice = n.choice := by rw [modifyZone]

@[simp] theorem muteSpeakers_control (m : Nat) (b : Bool) : (muteSpeakers m b n).control = n.control := by rw [muteSpeakers]
@[simp] theorem muteSpeakers_link (m : Nat) (b : Bool) : (muteSpeakers m b n).link = n.link := by rw [muteSpeakers]
@[simp] theorem muteSpeakers_tables (m : Nat) (b : Bool) : (muteSpeakers m b n).tables = n.tables := by rw [muteSpeakers]
@[simp] theorem muteSpeakers_detectors (m : Nat) (b : Bool) : (muteSpeakers m b n).detectors = n.detectors := by rw [muteSpeakers]
@[simp] theorem muteSpeakers_levels (m : Nat) (b : Bool) : (muteSpeakers m b n).levels = n.levels := by rw [muteSpeakers]
@[simp] theorem muteSpeakers_tracker (m : Nat) (b : Bool) : (muteSpeakers m b n).tracker = n.tracker := by rw [muteSpeakers]
@[simp] theorem muteSpeakers_eq (m : Nat) (b : Bool) : (muteSpeakers m b n).eq = n.eq := by rw [muteSpeakers]
@[simp] theorem muteSpeakers_ramps (m : Nat) (b : Bool) : (muteSpeakers m b n).ramps = n.ramps := by rw [muteSpeakers]
@[simp] theorem muteSpeakers_guards (m : Nat) (b : Bool) : (muteSpeakers m b n).guards = n.guards := by rw [muteSpeakers]
@[simp] theorem muteSpeakers_settingLane (m : Nat) (b : Bool) : (muteSpeakers m b n).settingLane = n.settingLane := by rw [muteSpeakers]
@[simp] theorem muteSpeakers_liveLane (m : Nat) (b : Bool) : (muteSpeakers m b n).liveLane = n.liveLane := by rw [muteSpeakers]
@[simp] theorem muteSpeakers_replies (m : Nat) (b : Bool) : (muteSpeakers m b n).replies = n.replies := by rw [muteSpeakers]
@[simp] theorem muteSpeakers_merger (m : Nat) (b : Bool) : (muteSpeakers m b n).merger = n.merger := by rw [muteSpeakers]
@[simp] theorem muteSpeakers_events (m : Nat) (b : Bool) : (muteSpeakers m b n).events = n.events := by rw [muteSpeakers]
@[simp] theorem muteSpeakers_boundary (m : Nat) (b : Bool) : (muteSpeakers m b n).boundary = n.boundary := by rw [muteSpeakers]
@[simp] theorem muteSpeakers_choice (m : Nat) (b : Bool) : (muteSpeakers m b n).choice = n.choice := by rw [muteSpeakers]

@[simp] theorem judgeProgram_control (p : Fin 4) : (judgeProgram p n).control = n.control := by rw [judgeProgram]
@[simp] theorem judgeProgram_link (p : Fin 4) : (judgeProgram p n).link = n.link := by rw [judgeProgram]
@[simp] theorem judgeProgram_tables (p : Fin 4) : (judgeProgram p n).tables = n.tables := by rw [judgeProgram]
@[simp] theorem judgeProgram_live (p : Fin 4) : (judgeProgram p n).live = n.live := by rw [judgeProgram]
@[simp] theorem judgeProgram_levels (p : Fin 4) : (judgeProgram p n).levels = n.levels := by rw [judgeProgram]
@[simp] theorem judgeProgram_tracker (p : Fin 4) : (judgeProgram p n).tracker = n.tracker := by rw [judgeProgram]
@[simp] theorem judgeProgram_eq (p : Fin 4) : (judgeProgram p n).eq = n.eq := by rw [judgeProgram]
@[simp] theorem judgeProgram_ramps (p : Fin 4) : (judgeProgram p n).ramps = n.ramps := by rw [judgeProgram]
@[simp] theorem judgeProgram_guards (p : Fin 4) : (judgeProgram p n).guards = n.guards := by rw [judgeProgram]
@[simp] theorem judgeProgram_settingLane (p : Fin 4) : (judgeProgram p n).settingLane = n.settingLane := by rw [judgeProgram]
@[simp] theorem judgeProgram_liveLane (p : Fin 4) : (judgeProgram p n).liveLane = n.liveLane := by rw [judgeProgram]
@[simp] theorem judgeProgram_replies (p : Fin 4) : (judgeProgram p n).replies = n.replies := by rw [judgeProgram]
@[simp] theorem judgeProgram_merger (p : Fin 4) : (judgeProgram p n).merger = n.merger := by rw [judgeProgram]
@[simp] theorem judgeProgram_events (p : Fin 4) : (judgeProgram p n).events = n.events := by rw [judgeProgram]
@[simp] theorem judgeProgram_boundary (p : Fin 4) : (judgeProgram p n).boundary = n.boundary := by rw [judgeProgram]
@[simp] theorem judgeProgram_choice (p : Fin 4) : (judgeProgram p n).choice = n.choice := by rw [judgeProgram]

@[simp] theorem withLane_control (l : LaneId) (x : Lane) : (withLane l x n).control = n.control := by cases l <;> rfl
@[simp] theorem withLane_link (l : LaneId) (x : Lane) : (withLane l x n).link = n.link := by cases l <;> rfl
@[simp] theorem withLane_tables (l : LaneId) (x : Lane) : (withLane l x n).tables = n.tables := by cases l <;> rfl
@[simp] theorem withLane_live (l : LaneId) (x : Lane) : (withLane l x n).live = n.live := by cases l <;> rfl
@[simp] theorem withLane_detectors (l : LaneId) (x : Lane) : (withLane l x n).detectors = n.detectors := by cases l <;> rfl
@[simp] theorem withLane_levels (l : LaneId) (x : Lane) : (withLane l x n).levels = n.levels := by cases l <;> rfl
@[simp] theorem withLane_tracker (l : LaneId) (x : Lane) : (withLane l x n).tracker = n.tracker := by cases l <;> rfl
@[simp] theorem withLane_eq (l : LaneId) (x : Lane) : (withLane l x n).eq = n.eq := by cases l <;> rfl
@[simp] theorem withLane_ramps (l : LaneId) (x : Lane) : (withLane l x n).ramps = n.ramps := by cases l <;> rfl
@[simp] theorem withLane_guards (l : LaneId) (x : Lane) : (withLane l x n).guards = n.guards := by cases l <;> rfl
@[simp] theorem withLane_replies (l : LaneId) (x : Lane) : (withLane l x n).replies = n.replies := by cases l <;> rfl
@[simp] theorem withLane_merger (l : LaneId) (x : Lane) : (withLane l x n).merger = n.merger := by cases l <;> rfl
@[simp] theorem withLane_events (l : LaneId) (x : Lane) : (withLane l x n).events = n.events := by cases l <;> rfl
@[simp] theorem withLane_boundary (l : LaneId) (x : Lane) : (withLane l x n).boundary = n.boundary := by cases l <;> rfl
@[simp] theorem withLane_choice (l : LaneId) (x : Lane) : (withLane l x n).choice = n.choice := by cases l <;> rfl
@[simp] theorem withLane_laneOf (l : LaneId) (x : Lane) : laneOf l (withLane l x n) = x := by cases l <;> rfl
@[simp] theorem withLane_twice (l : LaneId) (x y : Lane) : withLane l y (withLane l x n) = withLane l y n := by
  cases l <;> rfl
@[simp] theorem withLane_self (l : LaneId) : withLane l (laneOf l n) n = n := by cases l <;> rfl
@[simp] theorem withLane_setting_liveLane (x : Lane) : (withLane .setting x n).liveLane = n.liveLane := rfl
@[simp] theorem withLane_live_settingLane (x : Lane) : (withLane .live x n).settingLane = n.settingLane := rfl
@[simp] theorem setAssembly_control (l : LaneId) (a : Assembly) : (setAssembly l a n).control = n.control := by cases l <;> rfl
@[simp] theorem setAssembly_link (l : LaneId) (a : Assembly) : (setAssembly l a n).link = n.link := by cases l <;> rfl
@[simp] theorem setAssembly_tables (l : LaneId) (a : Assembly) : (setAssembly l a n).tables = n.tables := by cases l <;> rfl
@[simp] theorem setAssembly_live (l : LaneId) (a : Assembly) : (setAssembly l a n).live = n.live := by cases l <;> rfl
@[simp] theorem setAssembly_detectors (l : LaneId) (a : Assembly) : (setAssembly l a n).detectors = n.detectors := by cases l <;> rfl
@[simp] theorem setAssembly_levels (l : LaneId) (a : Assembly) : (setAssembly l a n).levels = n.levels := by cases l <;> rfl
@[simp] theorem setAssembly_tracker (l : LaneId) (a : Assembly) : (setAssembly l a n).tracker = n.tracker := by cases l <;> rfl
@[simp] theorem setAssembly_eq (l : LaneId) (a : Assembly) : (setAssembly l a n).eq = n.eq := by cases l <;> rfl
@[simp] theorem setAssembly_ramps (l : LaneId) (a : Assembly) : (setAssembly l a n).ramps = n.ramps := by cases l <;> rfl
@[simp] theorem setAssembly_guards (l : LaneId) (a : Assembly) : (setAssembly l a n).guards = n.guards := by cases l <;> rfl
@[simp] theorem setAssembly_replies (l : LaneId) (a : Assembly) : (setAssembly l a n).replies = n.replies := by cases l <;> rfl
@[simp] theorem setAssembly_merger (l : LaneId) (a : Assembly) : (setAssembly l a n).merger = n.merger := by cases l <;> rfl
@[simp] theorem setAssembly_events (l : LaneId) (a : Assembly) : (setAssembly l a n).events = n.events := by cases l <;> rfl
@[simp] theorem setAssembly_boundary (l : LaneId) (a : Assembly) : (setAssembly l a n).boundary = n.boundary := by cases l <;> rfl
@[simp] theorem setAssembly_choice (l : LaneId) (a : Assembly) : (setAssembly l a n).choice = n.choice := by cases l <;> rfl
@[simp] theorem enqueue_control (l : LaneId) (m : Message) : (enqueue l m n).control = n.control := by cases l <;> rfl
@[simp] theorem enqueue_link (l : LaneId) (m : Message) : (enqueue l m n).link = n.link := by cases l <;> rfl
@[simp] theorem enqueue_tables (l : LaneId) (m : Message) : (enqueue l m n).tables = n.tables := by cases l <;> rfl
@[simp] theorem enqueue_live (l : LaneId) (m : Message) : (enqueue l m n).live = n.live := by cases l <;> rfl
@[simp] theorem enqueue_detectors (l : LaneId) (m : Message) : (enqueue l m n).detectors = n.detectors := by cases l <;> rfl
@[simp] theorem enqueue_levels (l : LaneId) (m : Message) : (enqueue l m n).levels = n.levels := by cases l <;> rfl
@[simp] theorem enqueue_tracker (l : LaneId) (m : Message) : (enqueue l m n).tracker = n.tracker := by cases l <;> rfl
@[simp] theorem enqueue_eq (l : LaneId) (m : Message) : (enqueue l m n).eq = n.eq := by cases l <;> rfl
@[simp] theorem enqueue_ramps (l : LaneId) (m : Message) : (enqueue l m n).ramps = n.ramps := by cases l <;> rfl
@[simp] theorem enqueue_guards (l : LaneId) (m : Message) : (enqueue l m n).guards = n.guards := by cases l <;> rfl
@[simp] theorem enqueue_replies (l : LaneId) (m : Message) : (enqueue l m n).replies = n.replies := by cases l <;> rfl
@[simp] theorem enqueue_merger (l : LaneId) (m : Message) : (enqueue l m n).merger = n.merger := by cases l <;> rfl
@[simp] theorem enqueue_events (l : LaneId) (m : Message) : (enqueue l m n).events = n.events := by cases l <;> rfl
@[simp] theorem enqueue_boundary (l : LaneId) (m : Message) : (enqueue l m n).boundary = n.boundary := by cases l <;> rfl
@[simp] theorem enqueue_choice (l : LaneId) (m : Message) : (enqueue l m n).choice = n.choice := by cases l <;> rfl
@[simp] theorem popLane_control (l : LaneId) : (popLane l n).control = n.control := by cases l <;> rfl
@[simp] theorem popLane_link (l : LaneId) : (popLane l n).link = n.link := by cases l <;> rfl
@[simp] theorem popLane_tables (l : LaneId) : (popLane l n).tables = n.tables := by cases l <;> rfl
@[simp] theorem popLane_live (l : LaneId) : (popLane l n).live = n.live := by cases l <;> rfl
@[simp] theorem popLane_detectors (l : LaneId) : (popLane l n).detectors = n.detectors := by cases l <;> rfl
@[simp] theorem popLane_levels (l : LaneId) : (popLane l n).levels = n.levels := by cases l <;> rfl
@[simp] theorem popLane_tracker (l : LaneId) : (popLane l n).tracker = n.tracker := by cases l <;> rfl
@[simp] theorem popLane_eq (l : LaneId) : (popLane l n).eq = n.eq := by cases l <;> rfl
@[simp] theorem popLane_ramps (l : LaneId) : (popLane l n).ramps = n.ramps := by cases l <;> rfl
@[simp] theorem popLane_guards (l : LaneId) : (popLane l n).guards = n.guards := by cases l <;> rfl
@[simp] theorem popLane_replies (l : LaneId) : (popLane l n).replies = n.replies := by cases l <;> rfl
@[simp] theorem popLane_merger (l : LaneId) : (popLane l n).merger = n.merger := by cases l <;> rfl
@[simp] theorem popLane_events (l : LaneId) : (popLane l n).events = n.events := by cases l <;> rfl
@[simp] theorem popLane_boundary (l : LaneId) : (popLane l n).boundary = n.boundary := by cases l <;> rfl
@[simp] theorem popLane_choice (l : LaneId) : (popLane l n).choice = n.choice := by cases l <;> rfl
@[simp] theorem setAssembly_laneOf (l : LaneId) (a : Assembly) :
    laneOf l (setAssembly l a n) = { laneOf l n with assembly := a } := by cases l <;> rfl
@[simp] theorem enqueue_laneOf (l : LaneId) (m : Message) :
    laneOf l (enqueue l m n) = { laneOf l n with queue := (laneOf l n).queue ++ [m] } := by cases l <;> rfl
@[simp] theorem popLane_laneOf (l : LaneId) :
    laneOf l (popLane l n) = { laneOf l n with queue := (laneOf l n).queue.tail } := by cases l <;> rfl

end Sys2Proof.Machine
end

