-- ==== Sys2Proof/Laws/Vectors.lean ====
section
/-! SUPPORT. Reading an entry of a vector after one of the vector operations of Machine/Ops.lean. -/

namespace Sys2Proof.Machine

@[simp] theorem mapVec_getElem {α β : Type} {k : Nat} (f : α → β) (v : Vector α k) (i : Nat) (h : i < k) :
    (mapVec f v)[i] = f v[i] := by simp [mapVec]

@[simp] theorem modifyVec_getElem {α : Type} {k : Nat} (i : Fin k) (f : α → α) (v : Vector α k) (j : Nat)
    (h : j < k) : (modifyVec i f v)[j] = if j = i.val then f v[j] else v[j] := by
  simp [modifyVec, Fin.ext_iff]

@[simp] theorem putVec_getElem {α : Type} {k : Nat} (i : Fin k) (a : α) (v : Vector α k) (j : Nat) (h : j < k) :
    (putVec i a v)[j] = if j = i.val then a else v[j] := by simp [putVec]

/-- A vector with one entry replaced by itself is the same vector. -/
theorem putVec_self {α : Type} {k : Nat} (i : Fin k) (v : Vector α k) : putVec i v[i] v = v := by
  apply Vector.ext
  intro j h
  by_cases e : j = i.val
  · subst e; simp
  · simp [e]

/-- Two vectors that agree at every index of their length are equal. -/
theorem vector_eq {α : Type} {k : Nat} {v w : Vector α k} (h : ∀ i : Fin k, v[i] = w[i]) : v = w :=
  Vector.ext fun i hi => h ⟨i, hi⟩

end Sys2Proof.Machine
end

