-- ==== Sys2Proof/Laws/Carrying.lean ====
section
/-! SUPPORT. What carrying out a message, and each work of a boundary, leaves alone: the operating state, the link
port, the merger, the lanes, the boundary and the choice counter; and the principles by which a property is shown of
every write and every request. -/

namespace Sys2Proof.Machine

/-- The fields that no carrying-out of a message and no crossfade work touches. -/
structure SameOuter (n m : Node) : Prop where
  control : m.control = n.control
  link : m.link = n.link
  settingLane : m.settingLane = n.settingLane
  liveLane : m.liveLane = n.liveLane
  merger : m.merger = n.merger
  boundary : m.boundary = n.boundary
  choice : m.choice = n.choice

theorem SameOuter.refl (n : Node) : SameOuter n n := ⟨rfl, rfl, rfl, rfl, rfl, rfl, rfl⟩

theorem SameOuter.trans {a b c : Node} (h : SameOuter a b) (g : SameOuter b c) : SameOuter a c :=
  ⟨g.control.trans h.control, g.link.trans h.link, g.settingLane.trans h.settingLane, g.liveLane.trans h.liveLane,
   g.merger.trans h.merger, g.boundary.trans h.boundary, g.choice.trans h.choice⟩

/-! ## Principles -/

/-- A property kept by every element written and by every refusal is kept by a whole TABLE_WRITE. -/
theorem writeElements_keeps (P : Node → Prop) (t : TableId) (mask : Nat)
    (hw : ∀ idx vs n, P n → P (writeElement t mask idx vs n)) (hr : ∀ n, P n → P (refuse n)) :
    ∀ count idx bs n, P n → P (writeElements t mask count idx bs n) := by
  intro count
  induction count with
  | zero =>
    intro idx bs n h
    rw [writeElements]
    split
    · exact h
    · exact hr n h
  | succ count ih =>
    intro idx bs n h
    rw [writeElements]
    split
    · exact hr n h
    · exact ih _ _ _ (hw _ _ _ h)

/-- An element is refused, or lies in its table, merges, passes its check and is put. -/
theorem writeAt_cases {α : Type} (k idx : Nat) (stored : Fin k → α) (merge : α → Nat → GroupValue → Option α)
    (vs : List (Nat × GroupValue)) (ok : Fin k → α → Bool) (put : Fin k → α → Node → Node) (n : Node) :
    writeAt k idx stored merge vs ok put n = refuse n ∨
    ∃ (h : idx < k) (r : α), mergeGroups merge vs (stored ⟨idx, h⟩) = some r ∧ ok ⟨idx, h⟩ r = true ∧
      writeAt k idx stored merge vs ok put n = put ⟨idx, h⟩ r n := by
  unfold writeAt
  split
  · rename_i h
    split
    · rename_i r hr
      split
      · rename_i ho; exact .inr ⟨h, r, hr, ho, rfl⟩
      · exact .inl rfl
    · exact .inl rfl
  · exact .inl rfl

/-- A property of the node before and after that is kept by every put and by the refusal is kept by an element. -/
theorem writeAt_keeps {α : Type} (P : Node → Prop) (k idx : Nat) (stored : Fin k → α)
    (merge : α → Nat → GroupValue → Option α) (vs : List (Nat × GroupValue)) (ok : Fin k → α → Bool)
    (put : Fin k → α → Node → Node) (n : Node) (hr : P (refuse n))
    (hp : ∀ i r, mergeGroups merge vs (stored i) = some r → ok i r = true → P (put i r n)) :
    P (writeAt k idx stored merge vs ok put n) := by
  obtain h | ⟨h, r, hm, ho, e⟩ := writeAt_cases k idx stored merge vs ok put n
  · rwa [h]
  · rw [e]; exact hp _ _ hm ho

/-- A property kept by one request is kept by several. -/
theorem requestAll_keeps (P : Node → Prop) (hr : ∀ k n, P n → P (request k n)) :
    ∀ ks n, P n → P (requestAll ks n) := by
  intro ks
  induction ks with
  | nil => intro n h; exact h
  | cons k ks ih => intro n h; exact ih _ (hr k n h)

/-- A property kept by the selection of one speaker is kept by the selection of several. -/
theorem selectSpeakers_keeps (P : Node → Prop) (band : Option (Fin 4)) (s : SetRef)
    (hs : ∀ k n, P n → P (selectSpeaker band s k n)) : ∀ ks n, P n → P (selectSpeakers band s ks n) := by
  intro ks
  induction ks with
  | nil => intro n h; exact h
  | cons k ks ih => intro n h; exact ih _ (hs k n h)

/-! ## What stays the same -/

theorem raise_sameOuter (e : Event) (n : Node) : SameOuter n (raise e n) := by
  constructor <;> simp

theorem raiseIf_sameOuter (b : Bool) (e : Event) (n : Node) : SameOuter n (raiseIf b e n) := by
  constructor <;> simp

theorem modifyRecord_sameOuter (k : Fin 24) (f : EqRecord → EqRecord) (n : Node) :
    SameOuter n (modifyRecord k f n) := by
  constructor <;> simp

theorem startFade_sameOuter (k : Fin 24) (i : Fin 8) (t : SetRef) (n : Node) : SameOuter n (startFade k i t n) := by
  constructor <;> simp [startFade]

theorem handOver_sameOuter (i : Fin 8) (n : Node) : SameOuter n (handOver i n) := by
  unfold handOver
  split
  · split
    · constructor <;> simp [startFade]
    · exact .refl n
    · exact .refl n
  · exact .refl n
  · exact .refl n

theorem releaseSlot_sameOuter (i : Fin 8) (n : Node) : SameOuter n (releaseSlot i n) :=
  SameOuter.trans (b := putSlot i none n) (by constructor <;> simp) (handOver_sameOuter i _)

theorem requestByState_sameOuter (k : Fin 24) (d : SetRef) (n : Node) : SameOuter n (requestByState k d n) := by
  unfold requestByState
  split
  · split
    · exact .refl n
    · split
      · exact startFade_sameOuter _ _ _ _
      · constructor <;> simp [joinQueue]
  · split
    · constructor <;> simp [leaveQueue]
    · exact modifyRecord_sameOuter _ _ _
  · exact modifyRecord_sameOuter _ _ _

theorem request_sameOuter (k : Fin 24) (n : Node) : SameOuter n (request k n) := by
  unfold request
  split
  · exact requestByState_sameOuter _ _ _
  · exact modifyRecord_sameOuter _ _ _

theorem requestAll_sameOuter (ks : List (Fin 24)) (n : Node) : SameOuter n (requestAll ks n) :=
  requestAll_keeps (SameOuter n) (fun k m h => h.trans (request_sameOuter k m)) ks n (.refl n)

theorem disableEq_sameOuter (k : Fin 24) (n : Node) : SameOuter n (disableEq k n) := by
  unfold disableEq
  split
  · exact modifyRecord_sameOuter _ _ _
  · constructor <;> simp
  · split
    · exact (modifyRecord_sameOuter _ _ _).trans (releaseSlot_sameOuter _ _)
    · exact modifyRecord_sameOuter _ _ _

theorem zeroShelfWhenOff_sameOuter (k : Fin 24) (n : Node) : SameOuter n (zeroShelfWhenOff k n) := by
  unfold zeroShelfWhenOff
  split
  · exact modifyRecord_sameOuter _ _ _
  · exact .refl n

theorem disableSpeaker_sameOuter (k : Fin 24) (n : Node) : SameOuter n (disableSpeaker k n) :=
  SameOuter.trans (b := disableLevels k n) (by constructor <;> simp) (disableEq_sameOuter k _)

theorem speakerRequest_sameOuter (mask : Nat) (k : Fin 24) (old new : Speaker) (n : Node) :
    SameOuter n (speakerRequest mask k old new n) := by
  unfold speakerRequest
  split
  · constructor <;> simp [enableSpeaker, requestAtOnce]
  · split
    · exact request_sameOuter k n
    · exact .refl n

theorem writeSpeaker_sameOuter (mask : Nat) (k : Fin 24) (new : Speaker) (n : Node) :
    SameOuter n (writeSpeaker mask k new n) := by
  have hz : SameOuter n (zeroShelfWhenOff k (setTables (fun t => { t with speakers := putVec k new t.speakers }) n)) :=
    SameOuter.trans (b := setTables (fun t => { t with speakers := putVec k new t.speakers }) n)
      (by constructor <;> simp) (zeroShelfWhenOff_sameOuter k _)
  unfold writeSpeaker
  refine SameOuter.trans ?_ (speakerRequest_sameOuter _ _ _ _ _)
  split
  · exact hz.trans (disableSpeaker_sameOuter k _)
  · exact hz

theorem writeElement_sameOuter (t : TableId) (mask idx : Nat) (vs : List (Nat × GroupValue)) (n : Node) :
    SameOuter n (writeElement t mask idx vs n) := by
  unfold writeElement
  split <;> refine writeAt_keeps (SameOuter n) _ _ _ _ _ _ _ _ (raise_sameOuter _ _) ?_ <;> intro i r _ _ <;>
    first
    | exact writeSpeaker_sameOuter _ _ _ _
    | (constructor <;> simp [writeZone])

theorem selectSpeaker_sameOuter (band : Option (Fin 4)) (s : SetRef) (k : Fin 24) (n : Node) :
    SameOuter n (selectSpeaker band s k n) :=
  SameOuter.trans (b := setTables _ n) (by constructor <;> simp) (request_sameOuter k _)

theorem evaluateBand_sameOuter (n : Node) : SameOuter n (evaluateBand n) := by
  unfold evaluateBand
  dsimp only
  split
  · exact .refl n
  · refine SameOuter.trans ?_ (requestAll_sameOuter _ _)
    constructor <;> simp

theorem validReport_sameOuter (raw : Nat) (n : Node) : SameOuter n (validReport raw n) := by
  unfold validReport
  refine SameOuter.trans ?_ (evaluateBand_sameOuter _)
  constructor <;> rfl

/-- Carrying out a message touches none of the outer fields. -/
theorem carryOut_sameOuter (k : Kind) (m : Message) (n : Node) : SameOuter n (carryOut k m n) := by
  cases k <;> simp only [carryOut]
  · unfold carryTableWrite
    split
    · split
      · exact writeElements_keeps (SameOuter n) _ _
          (fun idx vs a h => h.trans (writeElement_sameOuter _ _ _ _ _))
          (fun a h => h.trans (raise_sameOuter _ _)) _ _ _ _ (.refl n)
      · exact raise_sameOuter _ _
    · exact .refl n
  · unfold carryTableRead; split <;> constructor <;> simp
  · unfold carryEqSelect
    split
    · split
      · exact selectSpeakers_keeps (SameOuter n) _ _ (fun k a h => h.trans (selectSpeaker_sameOuter _ _ k a)) _ _
          (.refl n)
      · exact raise_sameOuter _ _
    · exact .refl n
  · constructor <;> simp [carryIdentRead]
  · unfold carryLevel; dsimp only; repeat' split
    all_goals constructor <;> simp [refuse]
  · unfold carryProgramTrim; repeat' split
    all_goals constructor <;> simp [refuse]
  · unfold carryBalanceFade; repeat' split
    all_goals constructor <;> simp [refuse]
  · unfold carryMute; repeat' split
    all_goals constructor <;> simp [refuse]
  · unfold carrySpeed
    split
    · split
      · exact validReport_sameOuter _ _
      · split
        · constructor <;> simp [invalidReport]
        · exact raise_sameOuter _ _
    · exact .refl n
  · unfold carryCabin; split <;> constructor <;> simp
  · unfold carryPresence; repeat' split
    all_goals constructor <;> simp [refuse]
  · unfold carryRampControl; repeat' split
    all_goals constructor <;> simp [refuse]
  · unfold carryStatusRead; dsimp only; repeat' split
    all_goals constructor <;> simp

theorem completeFade_sameOuter (i : Fin 8) (n : Node) : SameOuter n (completeFade i n) := by
  unfold completeFade
  split
  · split
    · split
      · exact (modifyRecord_sameOuter _ _ _).trans (startFade_sameOuter _ _ _ _)
      · exact (modifyRecord_sameOuter _ _ _).trans (releaseSlot_sameOuter _ _)
      · exact .refl n
      · exact .refl n
    · exact .refl n
  · exact .refl n

end Sys2Proof.Machine
end

