-- ==== Sys2Proof/Laws/Merger.lean ====
section
/-! SUPPORT. The upstream merger's input against the table of R166 (`mergerInput`). -/

namespace Sys2Proof.Machine

/-- R166: a cell, or a period with none as an IDLE cell, acts by the table: what it stores accumulates, and the output
stands. -/
theorem mergerTake_cell (c : Option Cell) (m : Merger) : mergerTake c m =
    { m with
      store := m.store ++ (mergerInput m.input (c.getD ⟨.idle, 0⟩)).1
      input := (mergerInput m.input (c.getD ⟨.idle, 0⟩)).2 } := by
  obtain ⟨store, input, output⟩ := m
  have key : ∀ c : Cell, mergerTake (some c) ⟨store, input, output⟩ =
      ⟨store ++ (mergerInput input c).1, (mergerInput input c).2, output⟩ := by
    rintro ⟨marker, byte⟩
    cases marker <;> cases input <;> simp [mergerTake, mergerInput, mergerIdle, mergerData, mergerEnd, mergerAbort]
    split <;> simp
  cases c with
  | none => exact key ⟨.idle, 0⟩
  | some c => exact key c

/-- R166: the cell of a frame period is that received two periods earlier (log entry 9), or none outside lock. -/
theorem mergerCell_getD (k : Link) : (mergerCell k).getD ⟨.idle, 0⟩ = match k.amp, k.upPrev with
    | .locked _, some v => v.reply
    | _, _ => ⟨.idle, 0⟩ := by
  unfold mergerCell
  cases k.amp <;> cases k.upPrev <;> rfl

end Sys2Proof.Machine
end

