-- ==== Sys2Proof/Laws/Messages.lean ====
section
/-! SUPPORT. A whole message arriving on its lane: how it is judged, when the executor takes it there and when it
waits (R150, R153, R155 to R157). -/

namespace Sys2Proof.Machine

/-! ## The node whose takes are over: every field but the boundary stands -/

section

variable (l : LaneId) (n : Node)

@[simp] theorem lanesTaken_control : (lanesTaken l n).control = n.control := by cases l <;> rfl
@[simp] theorem lanesTaken_link : (lanesTaken l n).link = n.link := by cases l <;> rfl
@[simp] theorem lanesTaken_tables : (lanesTaken l n).tables = n.tables := by cases l <;> rfl
@[simp] theorem lanesTaken_live : (lanesTaken l n).live = n.live := by cases l <;> rfl
@[simp] theorem lanesTaken_detectors : (lanesTaken l n).detectors = n.detectors := by cases l <;> rfl
@[simp] theorem lanesTaken_levels : (lanesTaken l n).levels = n.levels := by cases l <;> rfl
@[simp] theorem lanesTaken_tracker : (lanesTaken l n).tracker = n.tracker := by cases l <;> rfl
@[simp] theorem lanesTaken_eq : (lanesTaken l n).eq = n.eq := by cases l <;> rfl
@[simp] theorem lanesTaken_ramps : (lanesTaken l n).ramps = n.ramps := by cases l <;> rfl
@[simp] theorem lanesTaken_guards : (lanesTaken l n).guards = n.guards := by cases l <;> rfl
@[simp] theorem lanesTaken_settingLane : (lanesTaken l n).settingLane = n.settingLane := by cases l <;> rfl
@[simp] theorem lanesTaken_liveLane : (lanesTaken l n).liveLane = n.liveLane := by cases l <;> rfl
@[simp] theorem lanesTaken_replies : (lanesTaken l n).replies = n.replies := by cases l <;> rfl
@[simp] theorem lanesTaken_merger : (lanesTaken l n).merger = n.merger := by cases l <;> rfl
@[simp] theorem lanesTaken_events : (lanesTaken l n).events = n.events := by cases l <;> rfl
@[simp] theorem lanesTaken_choice : (lanesTaken l n).choice = n.choice := by cases l <;> rfl

end

theorem byteSum_append (as : List Byte) (b : Byte) : byteSum (as ++ [b]) = byteSum as + b := by
  simp [byteSum]

/-- R150: the bytes of a message sum to 0. -/
theorem byteSum_messageBytes (m : Message) : byteSum (messageBytes m) = 0 := by
  rw [messageBytes, byteSum_append]; simp

/-- R150: a message of n payload bytes has n + 5 bytes. -/
@[simp] theorem messageBytes_length (m : Message) : (messageBytes m).length = m.payload.length + 5 := by
  simp [messageBytes, messageBody]

/-- R150: a message of at most 127 payload bytes passes the length step. -/
theorem lengthOk_messageBytes (m : Message) (h : m.payload.length ≤ 127) : lengthOk (messageBytes m) = true := by
  have h3 : (messageBytes m).getD 3 0 = BitVec.ofNat 8 m.payload.length := by simp [messageBytes, messageBody]
  simp only [lengthOk, messageBytes_length, h3]
  simp
  omega

/-- The two nibbles of a byte put together from them. -/
theorem nibbles_append : ∀ d o : BitVec 4, (d ++ o).extractLsb' 4 4 = d ∧ (d ++ o).extractLsb' 0 4 = o := by decide

/-- R150: a message's bytes spell the message. -/
theorem messageOf_messageBytes (m : Message) : messageOf (messageBytes m) = some m := by
  obtain ⟨d, o, k, t, p⟩ := m
  simp only [messageBytes, messageBody, List.cons_append, messageOf]
  rw [(nibbles_append d o).1, (nibbles_append d o).2, List.dropLast_concat]

/-- R153: a message formed by R150 passes the length and the check step and is admitted or not by its destination and
the room. -/
theorem judgeMessage_messageBytes (l : LaneId) (m : Message) (n : Node) (h : m.payload.length ≤ 127) :
    judgeMessage l (messageBytes m) n = admitMessage l m n := by
  simp [judgeMessage, lengthOk_messageBytes m h, byteSum_messageBytes, messageOf_messageBytes]

/-- R153: admission to a lane with room. -/
theorem admit_room (l : LaneId) (m : Message) (n : Node) (ha : m.dest = addressNibble n ∨ m.dest = 0xF)
    (hr : (laneOf l n).queue.length < laneCapacity l) : admitMessage l m n = enqueue l m n := by
  have : addressedHere n m = true := by simpa [addressedHere] using ha
  simp [admitMessage, this, Nat.not_le.mpr hr]

/-- A kind's code names the kind. -/
@[simp] theorem kindOf_kindCode (k : Kind) : kindOf (kindCode k) = some k := by cases k <;> rfl

/-- R156: a command's message is a request of its kind when its payload has the kind's length and it is no read
addressed to broadcast; otherwise it is a bad request. -/
theorem requestKind_command (h : MsgHeader) (k : Kind) (payload : List Byte) :
    requestKind (kindLane k) (commandMessage h k payload) =
      if lengthFits k payload.length = true ∧ ¬(isRead k = true ∧ h.dest = 0xF) then some k else none := by
  simp [requestKind, commandMessage]

/-- The states in which the executor runs are states in service. -/
theorem inService_of_executorRuns {s : NodeState} (h : executorRuns s = true) : inService s = true := by
  cases s <;> simp_all [executorRuns, inService]

/-- A lane due stands in a state in which the executor runs. -/
theorem executorRuns_of_laneDue {l : LaneId} {n : Node} (h : laneDue l n = true) :
    executorRuns n.control.node = true := by
  unfold laneDue at h
  exact (Bool.and_eq_true_iff.mp h).1

/-- R155: the take of a lane that holds one message, which is no read that stalls. -/
theorem takeLane_one (l : LaneId) (m : Message) (n : Node) (he : executorRuns n.control.node = true)
    (hq : (laneOf l n).queue = [m]) (hs : stalled l m n = false) :
    takeLane l n = perform l m (withLane l { laneOf l n with queue := [] } n) := by
  rw [takeLane, if_pos he, hq]
  simp [hs, popLane, hq]

/-- A read that finds room for its reply, and any other message, is no read that stalls (R157). -/
theorem stalled_command (h : MsgHeader) (k : Kind) (payload : List Byte) (n : Node)
    (hr : isRead k = true → n.replies.length < 4) :
    stalled (kindLane k) (commandMessage h k payload) n = false := by
  rw [stalled, requestKind_command]
  split
  · rename_i k' hk
    split at hk
    · cases hk
      cases hi : isRead k with
      | false => rfl
      | true => exact decide_eq_false (Nat.not_le.mpr (hr hi))
    · cases hk
  · rfl

/-- The take of a lane that is due, of a message just admitted to the empty lane. -/
theorem takeLaneNow_enqueue (l : LaneId) (m : Message) (n : Node) (he : executorRuns n.control.node = true)
    (hq : (laneOf l n).queue = []) (hs : ∀ x : Node, x.replies = n.replies → stalled l m x = false) :
    takeLaneNow l (enqueue l m n) = perform l m (lanesTaken l n) := by
  have hi := inService_of_executorRuns he
  cases l with
  | live =>
    have hq' : n.liveLane.queue = [] := hq
    rw [takeLaneNow, takeWork_inService _ _ (by simpa using hi), doWork,
      takeLane_one _ m _ (by simpa using he) (by simp [enqueue, laneOf, withLane, hq'])
        (hs _ (by simp))]
    congr 1
    simp [lanesTaken, enqueue, laneOf, withLane, ← hq']
  | setting =>
    have hq' : n.settingLane.queue = [] := hq
    rw [takeLaneNow, takeWork_inService _ _ (by simpa using hi), doWork,
      takeLane_one _ m _ (by simpa using he) (by simp [enqueue, laneOf, withLane, hq'])
        (hs _ (by simp))]
    congr 1
    simp [lanesTaken, enqueue, laneOf, withLane, ← hq']

/-- R105: a message of another kind than RAMP_CONTROL, or one that fails the request check, waits for no ramp step. -/
theorem headFits_command (h : MsgHeader) (k : Kind) (payload : List Byte) (n : Node)
    (hq : (laneOf (kindLane k) n).queue = [])
    (hk : k = .rampControl → lengthFits k payload.length = false) :
    headFits (kindLane k) (enqueue (kindLane k) (commandMessage h k payload) n) = true := by
  unfold headFits
  cases hl : kindLane k with
  | setting => rfl
  | live =>
    rw [hl] at hq
    have hq' : n.liveLane.queue = [] := hq
    dsimp only
    rw [rampControlSplit_of_head, Bool.not_false]
    intro m hm
    have : m = commandMessage h k payload := by simpa [enqueue, withLane, laneOf, hq', eq_comm] using hm
    subst this
    rw [← hl, requestKind_command]
    split
    · rename_i hc
      rintro ⟨⟩
      simp [hk rfl] at hc
    · simp

/-- R155, R156: a message that arrives at its boundary is performed there, unless it is a read that finds no room for
its reply, or a RAMP_CONTROL that would part the steps of its units (R105). -/
theorem deliver_arrives (h : MsgHeader) (k : Kind) (payload : List Byte) (n : Node)
    (hp : payload.length ≤ 127) (ha : arrivesAtBoundary k h n)
    (hr : isRead k = true → n.replies.length < 4)
    (hf : headFits (kindLane k) (enqueue (kindLane k) (commandMessage h k payload) n) = true) :
    deliver h k payload n =
      perform (kindLane k) (commandMessage h k payload) (lanesTaken (kindLane k) n) := by
  obtain ⟨hd, hq, hn⟩ := ha
  have he := executorRuns_of_laneDue hd
  have hroom : (laneOf (kindLane k) n).queue.length < laneCapacity (kindLane k) := by
    rw [hq]; cases kindLane k <;> simp [laneCapacity]
  have hj : judgeMessage (kindLane k) (messageBytes (commandMessage h k payload)) n =
      enqueue (kindLane k) (commandMessage h k payload) n := by
    rw [judgeMessage_messageBytes _ _ _ hp, admit_room _ _ _ hn hroom]
  rw [deliver, if_pos (inService_of_executorRuns he)]
  simp only [hj]
  rw [if_pos (by simp [hd, hq, hf])]
  exact takeLaneNow_enqueue _ _ _ he hq fun x hx => stalled_command h k payload x (by rw [hx]; exact hr)

/-- R156: a command's message is carried out by the rule of its kind, or sets BAD_REQUEST. -/
theorem perform_command (h : MsgHeader) (k : Kind) (payload : List Byte) (n : Node) :
    perform (kindLane k) (commandMessage h k payload) n =
      if lengthFits k payload.length = true ∧ ¬(isRead k = true ∧ h.dest = 0xF) then
        carryOut k (commandMessage h k payload) n
      else raise .badRequest n := by
  rw [perform, requestKind_command]
  split <;> rename_i hk <;> split at hk <;> simp_all

/-- R153, R154: a message that arrives where the executor may not take its lane at once is admitted, discarded with
its lane's overrun flag, or discarded in silence. -/
theorem deliver_waits (h : MsgHeader) (k : Kind) (payload : List Byte) (n : Node)
    (hp : payload.length ≤ 127) (hs : inService n.control.node = true)
    (hd : laneDue (kindLane k) n = false ∨ (laneOf (kindLane k) n).queue ≠ []) :
    deliver h k payload n = admitMessage (kindLane k) (commandMessage h k payload) n := by
  rw [deliver, if_pos hs]
  simp only [judgeMessage_messageBytes _ (commandMessage h k payload) _ hp]
  rw [if_neg]
  rcases hd with hd | hd <;> simp [hd]

/-- R151: in DETACHED and PASSIVE no message is received. -/
theorem deliver_outOfService (h : MsgHeader) (k : Kind) (payload : List Byte) (n : Node)
    (hs : inService n.control.node = false) : deliver h k payload n = n := by
  simp [deliver, hs]

end Sys2Proof.Machine
end

