-- ==== Sys2Proof/Laws/Steps.lean ====
section
/-! SUPPORT. The one induction over a step: the pieces that every command is made of, and the theorem that a property
kept by each piece is kept by every command and so by every step. -/

namespace Sys2Proof.Machine

/-- The head-side receiver is LOCKED. -/
def headLocked (n : Node) : Prop := ∃ m, n.link.head = .locked m

/-- The property is kept by each piece that the commands are made of, in the states in which the piece is taken. -/
structure Kept (P : Node → Prop) : Prop where
  reset : ∀ n, P n → P (assertReset n)
  release : ∀ n, P n → P (releaseReset n)
  headRun : ∀ n run r, P n → n.link.head = .hunting run → r < 8 → P (setHead (.hunting r) n)
  firstLock : ∀ n run hop, P n → n.link.head = .hunting run → n.link.address = none → P (firstLock hop n)
  relock : ∀ n run hop, P n → n.link.head = .hunting run → n.link.address.isSome = true → P (relock hop n)
  headLoss : ∀ n, P n → headLocked n → n.boundary = [] → P (headLoss n)
  headCount : ∀ n m, P n → headLocked n → m < 4 → P (setHead (.locked m) n)
  upstream : ∀ n, P n → headLocked n → P (sendUpstream n)
  delays : ∀ n, P n → headLocked n → P (advanceDelays n)
  code : ∀ n c hop, P n → P (takeCode c hop n)
  hop : ∀ n hop, P n → P (hopCheck hop n)
  noHop : ∀ n, P n → P (setMismatch 0 n)
  cells : ∀ n a b, P n → P (takeCells a b n)
  sources : ∀ n slots, P n → P (takeSources slots n)
  form : ∀ n f, P n → headLocked n → P (formFrame f n)
  count : ∀ n, P n → headLocked n → n.boundary = [] → P (countFrame n)
  choice : ∀ n c, P n → P { n with choice := c }
  ampRun : ∀ n run r, P n → headLocked n → n.link.amp = .hunting run → r < 8 → P (setAmp (.hunting r) n)
  ampLock : ∀ n run, P n → headLocked n → n.link.amp = .hunting run → P (ampLock n)
  ampMissed : ∀ n, P n → P (ampMissed n)
  ampLoss : ∀ n m, P n → n.link.amp = .locked m → P (ampLoss n)
  ampReceive : ∀ n f, P n → P (ampReceive f n)
  reply : ∀ n, P n → P (replyStarts n)
  work : ∀ n w, P n → inService n.control.node = true → w ∈ n.boundary →
    P (doWork w { n with boundary := n.boundary.erase w })
  erase : ∀ n w, P n → P { n with boundary := n.boundary.erase w }
  handOver : ∀ n i, P n → n.eq.slots[i] = none → P (handOver i n)
  judge : ∀ n l bytes, P n → inService n.control.node = true → P (judgeMessage l bytes n)

/-! ## What the pieces leave alone -/

theorem takeCode_outer (c : Option Code) (hop : BitVec 3) (n : Node) :
    (takeCode c hop n).link.head = n.link.head ∧ (n.boundary = [] → (takeCode c hop n).boundary = []) := by
  unfold takeCode
  split
  · split
    · simp
    · split
      · split
        · simp
        · rename_i c' _ _
          unfold acceptCode moveByCode moveTo
          cases c' <;> dsimp only <;> repeat' split
          all_goals simp +contextual [clearNode]
      · simp
  · simp

theorem hopCheck_outer (hop : BitVec 3) (n : Node) :
    (hopCheck hop n).link.head = n.link.head ∧ (hopCheck hop n).boundary = n.boundary := by
  unfold hopCheck enterFault
  repeat' split
  all_goals simp

theorem judgeMessage_outer (l : LaneId) (bytes : List Byte) (n : Node) :
    (judgeMessage l bytes n).link = n.link ∧ (judgeMessage l bytes n).boundary = n.boundary ∧
      (judgeMessage l bytes n).control = n.control := by
  unfold judgeMessage admitMessage
  repeat' split
  all_goals simp

theorem takeCell_outer (l : LaneId) (c : Cell) (n : Node) :
    (takeCell l c n).link = n.link ∧ (takeCell l c n).boundary = n.boundary := by
  unfold takeCell
  repeat' split
  all_goals simp [judgeMessage_outer]

theorem takeCells_outer (a b : Cell) (n : Node) :
    (takeCells a b n).link = n.link ∧ (takeCells a b n).boundary = n.boundary := by
  unfold takeCells
  split
  · simp [takeCell_outer]
  · simp

theorem takeHeader_outer (f : Option DownFrame) (n : Node) :
    (takeHeader f n).link.head = n.link.head ∧ (n.boundary = [] → (takeHeader f n).boundary = []) := by
  unfold takeHeader
  split
  · exact ⟨(hopCheck_outer _ _).1.trans (takeCode_outer _ _ _).1,
      fun h => (hopCheck_outer _ _).2.trans ((takeCode_outer _ _ _).2 h)⟩
  · exact ⟨by simp [takeCode_outer], fun h => by simpa using (takeCode_outer _ _ _).2 h⟩

theorem takeFrameCells_outer (f : Option DownFrame) (n : Node) :
    (takeFrameCells f n).link = n.link ∧ (takeFrameCells f n).boundary = n.boundary := by
  unfold takeFrameCells
  split <;> exact takeCells_outer _ _ _

theorem takeControl_outer (f : Option DownFrame) (n : Node) :
    (takeControl f n).link.head = n.link.head ∧ (n.boundary = [] → (takeControl f n).boundary = []) := by
  unfold takeControl
  repeat' split
  · exact ⟨(takeHeader_outer _ _).1.trans (by rw [(takeFrameCells_outer _ _).1]),
      fun h => (takeHeader_outer _ _).2 (by rw [(takeFrameCells_outer _ _).2]; exact h)⟩
  · exact ⟨by rw [(takeFrameCells_outer _ _).1]; exact (takeHeader_outer _ _).1,
      fun h => by rw [(takeFrameCells_outer _ _).2]; exact (takeHeader_outer _ _).2 h⟩
  · exact ⟨by rw [(takeFrameCells_outer _ _).1]; exact (takeHeader_outer _ _).1,
      fun h => by rw [(takeFrameCells_outer _ _).2]; exact (takeHeader_outer _ _).2 h⟩

theorem takeSources_outer (slots : Vector Sample 32) (n : Node) :
    (takeSources slots n).link = n.link ∧ (takeSources slots n).boundary = n.boundary := by
  unfold takeSources
  split <;> simp

theorem audioFrame_outer (slots : Vector Sample 32) (n : Node) :
    (audioFrame slots n).1.link = n.link ∧ (audioFrame slots n).1.boundary = n.boundary ∧
      (audioFrame slots n).1.control = n.control := by
  unfold audioFrame
  split <;> simp

theorem formFrame_outer (f : Option DownFrame) (n : Node) :
    (formFrame f n).link.head = n.link.head ∧ (formFrame f n).boundary = n.boundary := by
  unfold formFrame
  simp [audioFrame_outer]

theorem sendUpstream_outer (n : Node) :
    (sendUpstream n).link.head = n.link.head ∧ (sendUpstream n).boundary = n.boundary := by
  unfold sendUpstream
  split <;> simp [passiveUpstream, ownUpstream]

/-- A work changes neither the link port nor the boundary. -/
theorem doWork_outer (w : Work) (n : Node) :
    (doWork w n).link = n.link ∧ (doWork w n).boundary = n.boundary ∧ (doWork w n).choice = n.choice := by
  have hl : ∀ l, (takeLane l n).link = n.link ∧ (takeLane l n).boundary = n.boundary ∧
      (takeLane l n).choice = n.choice := by
    intro l
    unfold takeLane perform
    repeat' split
    all_goals first
      | simp
      | (have h := carryOut_sameOuter ‹Kind› ‹Message› (popLane l n)
         simp [h.link, h.boundary, h.choice])
  cases w <;> simp only [doWork]
  · exact hl _
  · exact hl _
  · simp
  · simp [trackStep]
  · simp [guardStep]
  · simp [rampStep]
  · have h := completeFade_sameOuter ‹Fin 8› n
    exact ⟨h.link, h.boundary, h.choice⟩
  · unfold formShelf; split <;> simp
  · unfold composeLevels; split <;> simp
  · unfold countStarting; split <;> simp

theorem takeWork_outer (w : Work) (n : Node) :
    (takeWork w n).link = n.link ∧ (takeWork w n).boundary = n.boundary.erase w ∧
      (takeWork w n).choice = n.choice := by
  unfold takeWork
  split
  · exact ⟨(doWork_outer _ _).1, (doWork_outer _ _).2.1, (doWork_outer _ _).2.2⟩
  · simp

theorem runWorks_outer : ∀ fuel n, (runWorks fuel n).link = n.link ∧
    (n.boundary.length ≤ fuel → (runWorks fuel n).boundary = []) := by
  intro fuel
  induction fuel with
  | zero => intro n; simp [runWorks]
  | succ fuel ih =>
    intro n
    rw [runWorks]
    by_cases hb : n.boundary = []
    · have : nextWork n = none := by simp [nextWork, choices, hb]
      simp [this, hb]
    · obtain ⟨w, hw⟩ := nextWork_some n hb
      have hm := (nextWork_mem n w hw).1
      rw [hw]
      have ht := takeWork_outer w { n with choice := n.choice + 1 }
      refine ⟨(ih _).1.trans ht.1, fun hl => (ih _).2 ?_⟩
      rw [ht.2.1, List.length_erase_of_mem hm]
      omega

/-- Completing a boundary leaves the link port as it is and no work untaken. -/
theorem completeBoundary_outer (n : Node) :
    (completeBoundary n).link = n.link ∧ (completeBoundary n).boundary = [] :=
  ⟨(runWorks_outer _ n).1, (runWorks_outer _ n).2 (le_refl _)⟩

/-! ## The induction -/

namespace Kept

variable {P : Node → Prop}

theorem takeWork (h : Kept P) (w : Work) (n : Node) (hp : P n) (hw : w ∈ n.boundary) : P (takeWork w n) := by
  unfold Machine.takeWork
  split
  · exact h.work n w hp ‹_› hw
  · exact h.erase n w hp

theorem runWorks (h : Kept P) : ∀ fuel n, P n → P (runWorks fuel n) := by
  intro fuel
  induction fuel with
  | zero => intro n hp; exact hp
  | succ fuel ih =>
    intro n hp
    rw [Machine.runWorks]
    split
    · exact hp
    · rename_i w hw
      exact ih _ (h.takeWork w _ (h.choice _ _ hp) (nextWork_mem n w hw).1)

theorem completeBoundary (h : Kept P) (n : Node) (hp : P n) : P (completeBoundary n) := h.runWorks _ n hp

theorem takeHeader (h : Kept P) (f : Option DownFrame) (n : Node) (hp : P n) : P (takeHeader f n) := by
  unfold Machine.takeHeader
  split
  · exact h.hop _ _ (h.code _ _ _ hp)
  · exact h.noHop _ (h.code _ _ _ hp)

theorem takeFrameCells (h : Kept P) (f : Option DownFrame) (n : Node) (hp : P n) : P (takeFrameCells f n) := by
  unfold Machine.takeFrameCells
  split <;> exact h.cells _ _ _ hp

theorem takeControl (h : Kept P) (f : Option DownFrame) (n : Node) (hp : P n) : P (takeControl f n) := by
  unfold Machine.takeControl
  repeat' split
  · exact h.takeHeader _ _ (h.takeFrameCells _ _ (h.choice _ _ hp))
  · exact h.takeFrameCells _ _ (h.takeHeader _ _ (h.choice _ _ hp))
  · exact h.takeFrameCells _ _ (h.takeHeader _ _ hp)

theorem framePeriod (h : Kept P) (f : Option DownFrame) (n : Node) (hp : P n) (hl : headLocked n) :
    P (framePeriod f n) := by
  unfold Machine.framePeriod
  have h1 : headLocked (Machine.completeBoundary n) := by
    obtain ⟨m, hm⟩ := hl; exact ⟨m, by rw [(completeBoundary_outer n).1]; exact hm⟩
  have h2 : headLocked (sendUpstream (Machine.completeBoundary n)) := by
    obtain ⟨m, hm⟩ := h1; exact ⟨m, (sendUpstream_outer _).1.trans hm⟩
  have h3 : headLocked (advanceDelays (sendUpstream (Machine.completeBoundary n))) := by
    obtain ⟨m, hm⟩ := h2; exact ⟨m, by simpa using hm⟩
  have b3 : (advanceDelays (sendUpstream (Machine.completeBoundary n))).boundary = [] := by
    simp [sendUpstream_outer, completeBoundary_outer]
  have p3 := h.delays _ (h.upstream _ (h.completeBoundary n hp) h1) h2
  generalize advanceDelays (sendUpstream (Machine.completeBoundary n)) = m at *
  have h4 : headLocked (Machine.takeControl f m) := by
    obtain ⟨k, hk⟩ := h3; exact ⟨k, (takeControl_outer f m).1.trans hk⟩
  have b4 := (takeControl_outer f m).2 b3
  have p4 := h.takeControl f m p3
  generalize Machine.takeControl f m = x at *
  have h5 : headLocked (takeSources (frameSlots f) x) := by
    obtain ⟨k, hk⟩ := h4; exact ⟨k, by rw [(takeSources_outer _ _).1]; exact hk⟩
  have b5 : (takeSources (frameSlots f) x).boundary = [] := (takeSources_outer _ _).2.trans b4
  have p5 := h.sources _ (frameSlots f) p4
  generalize takeSources (frameSlots f) x = y at *
  refine h.count _ (h.form _ _ p5 h5) ?_ ((formFrame_outer _ _).2.trans b5)
  obtain ⟨k, hk⟩ := h5
  exact ⟨k, (formFrame_outer _ _).1.trans hk⟩

theorem deliver (h : Kept P) (hd : MsgHeader) (k : Kind) (payload : List Byte) (n : Node) (hp : P n) :
    P (deliver hd k payload n) := by
  unfold Machine.deliver
  split
  · rename_i hs
    have hj := h.judge n (kindLane k) (messageBytes (commandMessage hd k payload)) hp hs
    have ho := judgeMessage_outer (kindLane k) (messageBytes (commandMessage hd k payload)) n
    dsimp only
    split
    · rename_i hc
      have hdue : laneDue (kindLane k) n = true := by
        simp only [Bool.and_eq_true] at hc; exact hc.1.1.1
      generalize judgeMessage (kindLane k) (messageBytes (commandMessage hd k payload)) n = m at *
      unfold takeLaneNow
      unfold laneDue at hdue
      cases hl : kindLane k with
      | live =>
        rw [hl] at hdue
        refine h.takeWork _ _ hj ?_
        rw [ho.2.1]
        simpa using (Bool.and_eq_true_iff.mp hdue).2
      | setting =>
        rw [hl] at hdue
        refine h.takeWork _ _ (h.erase _ _ hj) ?_
        show Work.settingTake ∈ m.boundary.erase .liveTake
        rw [ho.2.1]
        have := (Bool.and_eq_true_iff.mp hdue).2
        simp only [Bool.and_eq_true, List.contains_iff_mem] at this
        exact (List.mem_erase_of_ne (by decide)).mpr this.1
    · exact hj
  · exact hp

theorem takeEvent (h : Kept P) (w : Work) (b : Bool) (n : Node) (hp : P n) : P (takeEvent w b n) := by
  obtain ⟨hd, -, e⟩ | ⟨-, e⟩ := takeEvent_cases w b n
  · rw [e]
    refine h.takeWork w n hp ?_
    unfold workDue at hd
    simp only [Bool.and_eq_true, List.contains_iff_mem] at hd
    exact hd.1.2
  · rwa [e]

theorem headHunt (h : Kept P) (seen : SyncSeen) (hop : BitVec 3) (n : Node) (hp : P n) :
    P (headHunt seen hop n) := by
  unfold Machine.headHunt
  split
  · exact hp
  · split
    · exact hp
    · rename_i run hr
      split
      · exact h.headRun n run 0 hp hr (by omega)
      · split
        · exact h.headRun n run 1 hp hr (by omega)
        · exact hp
      · split
        · unfold headLock
          split
          · rename_i ha; exact h.firstLock n run hop hp hr ha
          · rename_i a ha; exact h.relock n run hop hp hr (by simp [ha])
        · exact h.headRun n run _ hp hr (by omega)

theorem headLockDue_hunting {n : Node} (h : headLockDue n = true) : n.link.head = .hunting 7 := by
  unfold headLockDue at h
  simpa using (Bool.and_eq_true_iff.mp h).2

theorem ampHunt (h : Kept P) (seen : SyncSeen) (n : Node) (hp : P n) : P (ampHunt seen n) := by
  unfold Machine.ampHunt
  split
  · rename_i m run hm hr
    split
    · exact h.ampRun n run 0 hp ⟨m, hm⟩ hr (by omega)
    · split
      · exact h.ampRun n run 1 hp ⟨m, hm⟩ hr (by omega)
      · exact hp
    · split
      · exact h.ampLock n run hp ⟨m, hm⟩ hr
      · exact h.ampRun n run _ hp ⟨m, hm⟩ hr (by omega)
  · exact hp
  · exact hp

/-- A property kept by each piece is kept by every command. -/
theorem exec (h : Kept P) (c : Instr) (s t : State) (hp : P s.node) (he : exec c s = .next t) : P t.node := by
  have key : ∀ f : Node → Node, answer f s = .next t → P (f s.node) → P t.node := by
    intro f e hf; cases e; exact hf
  cases c <;> simp only [Machine.exec,
    execResetAssert, execResetRelease, execHeadHuntSync, execFirstLock, execRelock,
    execDownstreamFrame, execMissedFrame, execHeadLossOfLock, execReplyStart,
    execUpstreamFrameReceive, execAmpLock, execAmpMissedFrame, execAmpLossOfLock, execAmpHuntSync,
    execRun, execQuiet, execHalt, execClear, execHopMismatchFault, execBlockBoundary,
    execPresenceHoldExpiry, execLiftReleaseStep, execStaleTimeExpiry, execFailTimeExpiry,
    execGuardHoldEnd, execGuardRecoveryStep, execRampSegmentClose, execCrossfadeComplete,
    execCrossfadeHandover, execStartingEnd, execTableWrite, execTableRead, execEqSelect,
    execIdentRead, execLevel, execProgramTrim, execBalanceFade, execMute, execSpeed, execCabin,
    execPresence, execRampControl, execStatusRead] at he <;>
    refine key _ he ?_
  · exact h.reset _ hp
  · exact h.release _ hp
  · exact h.headHunt _ _ _ hp
  · split
    · rename_i hc
      simp only [Bool.and_eq_true, Option.isNone_iff_eq_none] at hc
      exact h.firstLock _ _ _ hp (headLockDue_hunting hc.1) hc.2
    · exact hp
  · split
    · rename_i hc
      simp only [Bool.and_eq_true] at hc
      exact h.relock _ _ _ hp (headLockDue_hunting hc.1) hc.2
    · exact hp
  · unfold frameReceived; split
    · rename_i m hm
      exact h.framePeriod _ _ (h.headCount _ 0 hp ⟨m, hm⟩ (by omega)) ⟨0, by simp⟩
    · exact hp
  · unfold frameMissed; split
    · rename_i m hm; split
      · exact h.headLoss _ (h.completeBoundary _ hp) ⟨m, by rw [(completeBoundary_outer _).1]; exact hm⟩
          (completeBoundary_outer _).2
      · exact h.framePeriod _ _ (h.headCount _ (m + 1) hp ⟨m, hm⟩ (by omega)) ⟨m + 1, by simp⟩
    · exact hp
  · split
    · rename_i hm
      exact h.headLoss _ (h.completeBoundary _ hp) ⟨3, by rw [(completeBoundary_outer _).1]; exact hm⟩
          (completeBoundary_outer _).2
    · exact hp
  · exact h.reply _ (h.completeBoundary _ hp)
  · exact h.ampReceive _ _ hp
  · split
    · rename_i hd
      unfold ampLockDue at hd
      split at hd
      · rename_i m hm
        exact h.ampLock _ 7 hp ⟨m, hm⟩ (by simpa using hd)
      · cases hd
    · exact hp
  · exact h.ampMissed _ hp
  · split
    · exact h.ampLoss _ _ hp ‹_›
    · exact hp
  · exact h.code _ _ _ (h.completeBoundary _ hp)
  · exact h.code _ _ _ (h.completeBoundary _ hp)
  · exact h.code _ _ _ (h.completeBoundary _ hp)
  · exact h.code _ _ _ (h.completeBoundary _ hp)
  · exact h.hop _ _ (h.completeBoundary _ hp)
  · exact h.completeBoundary _ hp
  · exact h.takeEvent _ _ _ hp
  · exact h.takeEvent _ _ _ hp
  · exact h.takeEvent _ _ _ hp
  · exact h.takeEvent _ _ _ hp
  · exact h.takeEvent _ _ _ hp
  · exact h.takeEvent _ _ _ hp
  · exact h.takeEvent _ _ _ hp
  · exact h.takeEvent _ _ _ hp
  · split
    · rename_i hs
      exact h.handOver _ _ hp (by simpa using hs)
    · exact h.takeEvent _ _ _ hp
  · exact h.takeEvent _ _ _ hp
  all_goals first
    | exact h.deliver _ _ _ _ hp
    | exact h.ampHunt _ _ hp

/-- A property kept by each piece is kept by every step. -/
theorem step (h : Kept P) (s t : State) (hp : P s.node) (he : step s = .next t) : P t.node := by
  unfold Machine.step at he
  split at he
  · cases he; exact hp
  · rename_i c rest _
    exact h.exec c { s with pending := rest } t hp he

end Kept

end Sys2Proof.Machine
end

