-- ==== Sys2Proof/Laws/Ramps.lean ====
section
/-! SUPPORT. Which works of a boundary touch the ramp units, and the first step of a unit that a RAMP_CONTROL has
started (R99 to R106). -/

namespace Sys2Proof.Machine

/-- The fields that a work leaves alone unless it is a lane's take or a ramp step. -/
structure SameRamps (n m : Node) : Prop where
  control : m.control = n.control
  tables : m.tables = n.tables
  ramps : m.ramps = n.ramps
  settingLane : m.settingLane = n.settingLane
  liveLane : m.liveLane = n.liveLane

theorem SameRamps.refl (n : Node) : SameRamps n n := ⟨rfl, rfl, rfl, rfl, rfl⟩

theorem SameRamps.trans {a b c : Node} (h : SameRamps a b) (g : SameRamps b c) : SameRamps a c :=
  ⟨g.control.trans h.control, g.tables.trans h.tables, g.ramps.trans h.ramps, g.settingLane.trans h.settingLane,
   g.liveLane.trans h.liveLane⟩

theorem handOver_sameRamps (i : Fin 8) (n : Node) : SameRamps n (handOver i n) := by
  unfold handOver
  repeat' split
  all_goals constructor <;> simp [startFade]

theorem completeFade_sameRamps (i : Fin 8) (n : Node) : SameRamps n (completeFade i n) := by
  unfold completeFade
  repeat' split
  · constructor <;> simp [startFade]
  · exact SameRamps.trans (by constructor <;> simp) (handOver_sameRamps i (putSlot i none (modifyRecord _ completeRecord n)))
  all_goals exact .refl n

/-- A work that is no lane's take and no ramp step leaves the ramp units, the tables and the lanes alone, and outside
STARTING the node state too. -/
theorem doWork_sameRamps (w : Work) (n : Node) (hs : n.control.node ≠ .starting) (hl : w ≠ .liveTake)
    (ht : w ≠ .settingTake) (hr : ∀ u, w ≠ .ramp u) : SameRamps n (doWork w n) := by
  cases w with
  | liveTake => exact absurd rfl hl
  | settingTake => exact absurd rfl ht
  | ramp u => exact absurd rfl (hr u)
  | judge p => constructor <;> simp [doWork]
  | track => constructor <;> simp [doWork, trackStep]
  | guardStep => constructor <;> simp [doWork, Machine.guardStep]
  | complete k => exact completeFade_sameRamps _ _
  | shelf => simp only [doWork, formShelf]; split <;> constructor <;> simp
  | compose => simp only [doWork, composeLevels]; split <;> constructor <;> simp
  | starting => simp only [doWork, countStarting]; rw [if_neg hs]; exact .refl n

/-- R104: a ramp step moves its own unit alone. -/
theorem rampStep_ramps (u v : Fin 6) (n : Node) : (rampStep u n).ramps[v] =
    if u = v then (stepUnit n.tables.ramps[u] n.ramps[u]).1 else n.ramps[v] := by
  simp only [rampStep, raiseIf_ramps, Fin.getElem_fin, putVec_getElem]
  by_cases h : u = v
  · subst h; simp
  · rw [if_neg h, if_neg]
    intro hv
    exact h (Fin.ext hv.symm)

/-- R99, R100: a unit in RUN at index 0 with no segment open enters its first segment, which its first block does not
close unless its duration is 0. -/
theorem stepUnit_enters (l : RampList) (u : RampUnit) (g : Segment) (hm : u.mode = .run) (hi : u.index = 0)
    (hs : u.segment = none) (hl : l.segments[0]? = some g) (hd : 1 ≤ g.duration) :
    (stepUnit l u).1.mode = .run ∧ (stepUnit l u).1.segment =
      some { start := u.output, target := g.target, duration := g.duration, position := 1 } := by
  unfold stepUnit inSegment enterSegment
  simp only [hm, hi, hs, hl]
  have : segmentEnds { start := u.output, target := g.target, duration := g.duration, position := 0 } = false := by
    simp [segmentEnds]; omega
  simp only [Machine.openSegment, moveAlong, this]
  simp [hm]

end Sys2Proof.Machine
end

