-- ==== Sys2Proof/Laws/Tables.lean ====
section
/-! SUPPORT. How a TABLE_WRITE's bytes are cut into elements and a TABLE_READ's elements are gathered (R158, R159, R173,
R174): one lemma for each reading function, for bytes that fit and for bytes that end too soon. -/

namespace Sys2Proof.Machine

/-- Bytes of as many entries as are counted are cut into entries, whatever follows them. -/
theorem cutEntries_fits (size : Nat) : ∀ (count : Nat) (bs : List Byte), bs.length = count * size →
    ∃ es, ∀ rest, cutEntries size count (bs ++ rest) = some (es, rest) := by
  intro count
  induction count with
  | zero => intro bs h; simp at h; subst h; exact ⟨[], fun _ => rfl⟩
  | succ count ih =>
    intro bs h
    have h1 : size ≤ bs.length := by rw [h, Nat.succ_mul]; omega
    obtain ⟨es, he⟩ := ih (bs.drop size) (by rw [List.length_drop, h, Nat.succ_mul]; omega)
    refine ⟨bs.take size :: es, fun rest => ?_⟩
    unfold cutEntries cutBytes
    rw [if_pos (by simp; omega)]
    simp only
    rw [List.drop_append_of_le_length h1, List.take_append_of_le_length h1, he]

/-- Entries of one size are read back as they are. -/
theorem cutEntries_flatten (size : Nat) (rest : List Byte) : ∀ es : List (List Byte), (∀ e ∈ es, e.length = size) →
    cutEntries size es.length (es.flatten ++ rest) = some (es, rest) := by
  intro es
  induction es with
  | nil => intro _; rfl
  | cons e es ih =>
    intro h
    have he := h e (by simp)
    simp only [List.length_cons, List.flatten_cons, List.append_assoc]
    unfold cutEntries cutBytes
    rw [if_pos (by simp; omega)]
    simp only
    subst he
    rw [List.drop_left, List.take_left, ih fun x hx => h x (by simp [hx])]

theorem cutEntries_short (size : Nat) : ∀ (count : Nat) (bs : List Byte), bs.length < count * size →
    cutEntries size count bs = none := by
  intro count
  induction count with
  | zero => intro bs h; simp at h
  | succ count ih =>
    intro bs h
    unfold cutEntries cutBytes
    by_cases hl : size ≤ bs.length
    · rw [if_pos hl]; simp only
      rw [ih _ (by rw [List.length_drop]; rw [Nat.succ_mul] at h; omega)]
    · rw [if_neg hl]

/-- The bytes of a list group are read back as its entries. -/
theorem cutGroup_counted (size : Nat) (es : List (List Byte)) (h : ∀ e ∈ es, e.length = size) (hl : es.length < 256)
    (rest : List Byte) : cutGroup (.list size) (counted es ++ rest) = some (.entries es, rest) := by
  unfold cutGroup counted; simp only [List.cons_append]
  have : (BitVec.ofNat 8 es.length).toNat = es.length := by simp; omega
  rw [this, cutEntries_flatten size rest es h]

/-- Bytes that fit a group's shape are cut off whole. -/
theorem cutGroup_fits (shape : GroupShape) (g : List Byte) (h : shapeFits shape g) :
    ∃ v, ∀ rest, cutGroup shape (g ++ rest) = some (v, rest) := by
  cases shape with
  | fixed k =>
    have h : g.length = k := h
    refine ⟨.bytes g, fun rest => ?_⟩
    unfold cutGroup cutBytes; simp only; rw [if_pos (by simp; omega)]; subst h; simp
  | list k =>
    obtain ⟨c, es, rfl, he⟩ := h
    obtain ⟨v, hv⟩ := cutEntries_fits k c.toNat es he
    refine ⟨.entries v, fun rest => ?_⟩
    unfold cutGroup; simp only [List.cons_append]; rw [hv]

/-- Bytes that end inside a group read as none. -/
theorem cutGroup_short (shape : GroupShape) (g p : List Byte) (h : shapeFits shape g) (hp : p <+: g) (hne : p ≠ g) :
    cutGroup shape p = none := by
  have hlen : p.length < g.length := lt_of_le_of_ne hp.length_le fun e => hne (hp.eq_of_length e)
  cases shape with
  | fixed k =>
    have h : g.length = k := h
    unfold cutGroup cutBytes; simp only; rw [if_neg (by omega)]
  | list k =>
    obtain ⟨c, es, rfl, he⟩ := h
    unfold cutGroup
    cases p with
    | nil => rfl
    | cons a as =>
      obtain ⟨x, hx⟩ := hp
      simp only [List.cons_append, List.cons.injEq] at hx
      obtain ⟨rfl, hx⟩ := hx
      simp only
      rw [cutEntries_short k _ _ (by simp at hlen; omega)]

/-- The bytes of an element's selected groups are cut off whole. -/
theorem cutElement_fits (mask : Nat) : ∀ shape groups g, List.Forall₂ shapeFits shape groups →
    ∃ vs, ∀ rest, cutElement mask g shape (joinGroups mask g groups ++ rest) = some (vs, rest) := by
  intro shape
  induction shape with
  | nil => intro groups g h; cases h; exact ⟨[], fun _ => rfl⟩
  | cons s ss ih =>
    intro groups g h
    cases h with
    | cons hs hss =>
      rename_i b bs
      obtain ⟨vs, hv⟩ := ih bs (g + 1) hss
      unfold cutElement joinGroups
      by_cases hm : maskBit mask g = true
      · obtain ⟨v, hg⟩ := cutGroup_fits s b hs
        refine ⟨(g, v) :: vs, fun rest => ?_⟩
        rw [if_pos hm, if_pos hm, List.append_assoc, hg]; simp only; rw [hv]
      · refine ⟨vs, fun rest => ?_⟩
        rw [if_neg hm, if_neg hm]; exact hv rest

/-- Bytes that end inside an element read as none. -/
theorem cutElement_short (mask : Nat) : ∀ shape groups g p, List.Forall₂ shapeFits shape groups →
    p <+: joinGroups mask g groups → p ≠ joinGroups mask g groups → cutElement mask g shape p = none := by
  intro shape
  induction shape with
  | nil => intro groups g p h hp hn; cases h; simp [joinGroups] at hp hn; exact absurd hp hn
  | cons s ss ih =>
    intro groups g p h hp hn
    cases h with
    | cons hs hss =>
      rename_i b bs
      unfold joinGroups at hp hn
      unfold cutElement
      by_cases hm : maskBit mask g = true
      · rw [if_pos hm] at hp hn
        rw [if_pos hm]
        by_cases hpb : p <+: b ∧ p ≠ b
        · rw [cutGroup_short s b p hs hpb.1 hpb.2]
        · have : ∃ r, p = b ++ r ∧ r <+: joinGroups mask (g + 1) bs := by
            by_cases hle : p.length ≤ b.length
            · have h := List.prefix_of_prefix_length_le hp (List.prefix_append b _) hle
              have : p = b := by by_contra hc; exact hpb ⟨h, hc⟩
              exact ⟨[], by simp [this], List.nil_prefix⟩
            · obtain ⟨r, rfl⟩ := List.prefix_of_prefix_length_le (List.prefix_append b _) hp (by omega)
              exact ⟨r, rfl, (List.prefix_append_right_inj b).mp hp⟩
          obtain ⟨r, rfl, hr⟩ := this
          obtain ⟨v, hv⟩ := cutGroup_fits s b hs
          rw [hv]; simp only
          rw [ih bs (g + 1) r hss hr (by rintro rfl; exact hn rfl)]
      · rw [if_neg hm] at hp hn ⊢; exact ih bs (g + 1) p hss (by simpa using hp) (by simpa using hn)

/-- An index beyond its table is refused. -/
theorem writeElement_beyond (t : TableId) (idx : Nat) (h : tableSize t ≤ idx) (mask : Nat)
    (vs : List (Nat × GroupValue)) (n : Node) : writeElement t mask idx vs n = refuse n := by
  cases t <;> simp only [tableSize] at h <;> simp only [writeElement, writeAt] <;> rw [dif_neg (by omega)]

/-- An element can be read where its table has it. -/
theorem elementBytes_isSome (n : Node) (t : TableId) (mask i : Nat) :
    (elementBytes n t mask i).isSome = true ↔ i < tableSize t := by
  unfold elementBytes elementGroups tableSize
  cases t <;> simp

/-- R159: what a TABLE_READ gathers: whole elements in index order, as many as are wanted, exist and fit. -/
theorem readElements_spec (n : Node) (t : TableId) (mask : Nat) : ∀ wanted i room : Nat, ∃ es : List (List Byte),
    readElements n t mask wanted i room = (es.length, es.flatten) ∧ es.length ≤ wanted ∧ es.flatten.length ≤ room ∧
    (∀ j e, es[j]? = some e → elementBytes n t mask (i + j) = some e) ∧
    (es.length = wanted ∨ elementBytes n t mask (i + es.length) = none ∨
      ∃ e, elementBytes n t mask (i + es.length) = some e ∧ room < es.flatten.length + e.length) := by
  intro wanted
  induction wanted with
  | zero => intro i room; exact ⟨[], by simp [readElements]⟩
  | succ wanted ih =>
    intro i room
    unfold readElements
    cases hb : elementBytes n t mask i with
    | none => exact ⟨[], by simp [hb]⟩
    | some b =>
      simp only
      split
      · obtain ⟨es, h1, h2, h3, h4, h5⟩ := ih (i + 1) (room - b.length)
        refine ⟨b :: es, by simp [h1], by simp [h2], by simp; simp at h3; omega, ?_, ?_⟩
        · intro j e
          cases j with
          | zero => simp [hb]
          | succ j => simp; intro hj; rw [← h4 j e hj]; congr 1; omega
        · simp only [List.length_cons, List.flatten_cons, List.length_append]
          rw [show i + (es.length + 1) = i + 1 + es.length by omega]
          rcases h5 with h | h | ⟨e, h, h'⟩
          · left; omega
          · right; left; exact h
          · right; right; exact ⟨e, h, by omega⟩
      · exact ⟨[], by simp [hb]; omega⟩

end Sys2Proof.Machine
end

