-- ==== Sys2Proof/Tests/Slice0.lean ====
section
/-! SUPPORT. The model's own tests. First the smoke of WellFormed and single steps whose expected values are the
manual's worked examples and tables; then, for every statement that has hypotheses, a theorem that shows a concrete
state and operands that meet them together, each clause at a boundary value of its range. -/

namespace Sys2Proof.Tests

open Sys2Proof.Machine

/-- A node of address 1 with both receivers LOCKED. -/
def linked (s : NodeState) : Node :=
  { control := { node := s }, link := { head := .locked 0, amp := .locked 0, address := some 1 } }

/-- The same at a boundary of which some works are left. -/
def due (s : NodeState) (works : List Work) : Node := { linked s with boundary := works }

/-- A header to node 1 from the head unit. -/
def toNode : MsgHeader := { dest := 1, origin := 0xE, tag := 5 }

/-- The node after one command. -/
def after (c : Instr) (n : Node) : Node :=
  match step ⟨n, [c]⟩ with
  | .next t => t.node
  | .fault _ => n
  | .refused _ => n

/-- A downstream frame of a hop count and a code with IDLE cells and silent slots. -/
def frame (hop : BitVec 3) (code : BitVec 4) : DownFrame :=
  { hop := hop, code := code, setting := idleCell, live := idleCell, slots := .replicate 32 0 }

/-! ## WellFormed -/

theorem test_wellFormed_refuses_128_bytes :
    wellFormed (.tableWrite toNode (List.replicate 128 0)) = false ∧
    wellFormed (.statusRead toNode (List.replicate 128 0)) = false := by simp [wellFormed, payloadOk]

theorem test_wellFormed_takes_127_bytes :
    wellFormed (.tableWrite toNode (List.replicate 127 0)) = true ∧ wellFormed .missedFrame = true := by
  simp [wellFormed, payloadOk]

/-! ## Formats (9.1.1, 10.5.1, R169) -/

theorem test_identRead_check_byte :
    messageBytes { dest := 1, origin := 0xE, kind := 0x13, tag := 5, payload := [] } =
      [0x1E, 0x13, 0x05, 0x00, 0xCA] := by decide

theorem test_tableWrite_check_byte :
    messageBytes { dest := 0, origin := 0xE, kind := 0x10, tag := 0x21, payload := [2, 0, 1, 0, 3, 1, 5] } =
      [0x0E, 0x10, 0x21, 0x07, 0x02, 0x00, 0x01, 0x00, 0x03, 0x01, 0x05, 0xAE] := by decide

theorem test_guard_code_bytes : signedBytes 2 (-8) = [0xFF, 0xF8] ∧ signedOf [0xFF, 0xF8] = -8 := by decide

theorem test_sync_opens_the_frame :
    (downBits (frame 1 1)).take 16 = fieldBits 0xE81D#16 ∧ (downBits (frame 1 1)).length = 832 := by
  decide +kernel

/-! ## The sample path (1.3.1, 2.7.1, 3.4.1, 4.4.1, 4.7.1) -/

/-- The speaker and the levels of 1.3.1. -/
def mixNode : Node :=
  { linked .active with
    tables := {
      sources := .ofFn fun i =>
        if i = 0 then { enabled := true } else if i = 4 then { enabled := true, slot := 1, program := 2 } else {}
      speakers := .ofFn fun k => if k = 2 then
        { enabled := true, taps := [{ source := 0, weight := 16384 }, { source := 4, weight := 12288 }] } else {} }
    levels := { pairs := .ofFn fun i =>
      if i = 0 then { linear := 65536 } else if i = 2 then { linear := 131072 } else {} } }

theorem test_premix_of_two_programs :
    premix mixNode (.ofFn fun i => if i = 0 then 1000000 else if i = 1 then BitVec.ofInt 24 (-400003) else 0) 2 =
      6250 := by decide

theorem test_output_of_two_speakers :
    roundPow 22 (31250 * (linearGain 4 : Int)) = 33108 ∧ roundPow 22 (31250 * (linearGain 24 : Int)) = 44194 := by
  decide

theorem test_curve_at_80_kmh :
    curveValue [⟨0, 0, 0⟩, ⟨200, 24, 8⟩, ⟨480, 60, 24⟩] 320 = (39, 14) := by decide

theorem test_crossfade_frame : crossfade 10000 (-2000) 100 16 = 7657 ∧ crossfade 10000 (-2000) 512 16 = -2000 := by
  decide

theorem test_shelf_of_a_steady_tone :
    shelfState 4096 0 100000 = 6250 ∧ shelfOutput 4096 (linearGain 24) 6250 100000 = 102588 ∧
    shelfState 4096 6250 100000 = 12109 ∧ shelfOutput 4096 (linearGain 24) 12109 100000 = 105015 := by decide

theorem test_linear_gain_ends : linearGain (-960) = 0 ∧ linearGain (-959) = 4 ∧ linearGain 192 = 67108864 := by decide

/-! ## The link (R124 to R132, R139, 7.5.1) -/

theorem test_eighth_sync_latches_the_address :
    (after (.headHuntSync .atExpected 2) { link := { head := .hunting 7 } }).link.address = some 2 ∧
    (after (.headHuntSync .atExpected 4) { link := { head := .hunting 7 } }).control.node = .passive := by decide

theorem test_frame_raises_the_hop_count :
    ((after (.downstreamFrame (frame 1 0)) (linked .halted)).link.formed1.map (·.hop)) = some 2 ∧
    ((after (.downstreamFrame (frame 7 0)) (linked .passive)).link.formed1.map (·.hop)) = some 7 := by decide

/-- R169, R136 against R128: the fill stands in PASSIVE alone. -/
theorem test_passive_forwards_the_fill :
    ((after (.downstreamFrame { frame 1 0 with fill := 5 }) (linked .passive)).link.formed1.map (·.fill)) = some 5 ∧
    ((after (.downstreamFrame { frame 1 0 with fill := 5 }) (linked .halted)).link.formed1.map (·.fill)) = some 0 := by
  decide

theorem test_missed_frame_has_code_0 :
    ((after .missedFrame (linked .halted)).link.formed1.map (·.code)) = some 0 ∧
    (after .missedFrame (linked .halted)).link.head = .locked 1 := by decide

theorem test_fourth_missed_frame_detaches :
    (after .missedFrame { linked .active with link := { head := .locked 3, address := some 1 } }).control =
      { node := .detached, returnState := some .active } := by decide

theorem test_second_quiet_moves_to_quiet :
    (after .quiet { linked .active with link := { accepted := .run, candidate := some .quiet } }).control.node =
      .quiet ∧
    (after .quiet { linked .active with link := { accepted := .run, candidate := some .run } }).control.node =
      .active := by decide

theorem test_second_mismatch_faults :
    (after (.hopMismatchFault 2) { linked .active with link := { address := some 1, mismatch := 1 } }).control.node =
      .fault := by decide

/-! ## Lanes (9.2.1) -/

theorem test_idle_ends_a_begun_message :
    takeCell .live idleCell { liveLane := { assembly := .assembling [1, 2, 3] } } =
      { liveLane := { assembly := .ready }, events := 0x4 } := by decide

theorem test_stray_end_is_malformed :
    (takeCell .live ⟨.fin, 0⟩ { liveLane := { assembly := .ready } }).events = 0x4 := by decide

/-! ## Boundaries (2.6.1, 5.9, 6.5.1) -/

theorem test_pair_rises_by_two :
    ((after .blockBoundary { due .active [.compose] with
      live := { zones := .ofFn fun _ => { volumeCode := -144 } }
      levels := { pairs := .replicate 16 { applied := -240 } } }).levels.pairs[(0 : Fin 16)]).applied = -238 := by
  decide

/-- The unit of 5.9 with its list. -/
def chime (u : RampUnit) : Node :=
  { due .active [.ramp 1] with
    tables := { ramps := .replicate 6 { segments := [⟨-72, 11⟩, ⟨-72, 299⟩, ⟨0, 23⟩] } }
    ramps := .replicate 6 u }

theorem test_chime_first_block :
    (after .blockBoundary (chime { mode := .run })).ramps[(1 : Fin 6)] =
      { mode := .run, segment := some ⟨0, -72, 11, 1⟩, output := -6 } := by decide

theorem test_chime_segment_closes :
    (after (.rampSegmentClose 1)
      (chime { mode := .run, segment := some ⟨0, -72, 11, 11⟩, output := -66 })).ramps[(1 : Fin 6)] =
      { mode := .run, index := 1, output := -72 } := by decide

/-- Zone 0 of 6.5.1 with speaker K0's mark and a guard state. -/
def loud (last : Bool) (g : Guard) : Node :=
  { due .active [.guardStep] with
    tables := { zones := .ofFn fun z => { curve := z, guardOn := z == 0 } }
    levels := { clips := .ofFn fun k => { last := last && k == 0 } }
    guards := .replicate 4 g }

theorem test_guard_attacks :
    (after .blockBoundary (loud true {})).guards[(0 : Fin 4)] = { code := -4, hold := 750, recover := 0 } ∧
    (after .blockBoundary (loud true {})).events = 0x400 := by decide

theorem test_guard_recovers :
    (after (.guardRecoveryStep 0) (loud false { code := -8, recover := 14 })).guards[(0 : Fin 4)] =
      { code := -7 } := by decide

/-! ## Messages at their boundary (R13, R31 to R34, R50, R55, R76, R105, R158 to R160, R163) -/

/-- A node in a state at a boundary at which both lanes may be taken. -/
def taking (s : NodeState) : Node := due s [.liveTake, .settingTake]

theorem test_level_index : ((after (.level toNode [1, 0, 0, 45]) (taking .active)).live.zones[(0 : Fin 4)]).volumeCode =
    -144 := by decide

theorem test_level_code_clamps :
    ((after (.level toNode [8, 1, 0, 1]) (taking .active)).live.zones[(3 : Fin 4)]).volumeCode = 0 := by decide

theorem test_programTrim_clamps :
    ((after (.programTrim toNode [3, 2, 0x80, 0]) (taking .active)).live.zones[(3 : Fin 4)]).trims[(2 : Fin 4)] =
      -480 := by decide

theorem test_balanceFade_clamps :
    ((after (.balanceFade toNode [0, 0xDF, 0x21]) (taking .halted)).live.zones[(0 : Fin 4)]).balance = -32 ∧
    ((after (.balanceFade toNode [0, 0xDF, 0x21]) (taking .halted)).live.zones[(0 : Fin 4)]).fade = 32 := by decide

theorem test_mute_top_speaker :
    (after (.mute toNode [1, 0x80, 0, 0, 1]) (taking .active)).live.mutes[(23 : Fin 24)] = true := by decide

theorem test_speed_rises_to_band_1 :
    (after (.speed toNode [0, 160, 1]) (taking .active)).tracker.band = 1 ∧
    (after (.speed toNode [0, 160, 1]) (taking .active)).events = 0x100 := by decide

theorem test_speed_invalid :
    (after (.speed toNode [0, 1, 0]) { taking .active with tracker := { state := .live, speed := 9 } }).tracker =
      { state := .stale, speed := 9, raw := 1 } := by decide +kernel

theorem test_cabin_keeps_four_flags : (after (.cabin toNode [0xF9]) (taking .active)).tracker.cabin = 9 := by decide

theorem test_presence_on : ((after (.presence toNode [8, 1]) (taking .active)).detectors[(3 : Fin 4)]).present = true := by
  decide

theorem test_rampControl_run :
    (after (.rampControl toNode [2, 2, 0]) (chime { index := 3, done := true } |> fun n =>
      { n with boundary := [.liveTake] })).ramps[(1 : Fin 6)] = { mode := .run } := by decide

/-- R105: between the steps of the units it names a RAMP_CONTROL waits. -/
theorem test_rampControl_waits_between_steps :
    ((after (.rampControl toNode [3, 2, 0]) (due .active [.liveTake, .ramp 1])).liveLane.queue.map (·.payload)) =
      [[3, 2, 0]] ∧
    (after (.rampControl toNode [2, 2, 0]) (due .active [.liveTake, .ramp 1])).liveLane.queue = [] := by decide

theorem test_statusRead_reports_then_clears :
    (after (.statusRead toNode [0x04, 0, 1, 0]) { taking .active with events := 0x421 }).events = 0x21 ∧
    ((after (.statusRead toNode [0x04, 0, 1, 0]) { taking .active with events := 0x421 }).replies.map
      fun m => (m.payload.length, m.payload.take 5)) = [(33, [0, 0x04, 0x21, 1, 0])] := by decide

/-- 10.5.2: offsets 9 and 10 of the 28-byte ZONE record hold a guard code of -8. -/
theorem test_zone_record_guard :
    (zoneRecord { taking .active with guards := .replicate 4 { code := -8 } } 0).length = 28 ∧
    ((zoneRecord { taking .active with guards := .replicate 4 { code := -8 } } 0).drop 9).take 2 = [0xFF, 0xF8] := by
  decide

theorem test_identRead_reply :
    (after (.identRead toNode []) (taking .halted)).replies =
      [⟨0xE, 1, 0x93, 5, [0, 0x4B, 0x48, 0x12, 0xD0, 1, 12, 24, 4, 4, 48, 6, 8]⟩] := by decide

theorem test_tableWrite_enables_a_speaker :
    ((after (.tableWrite toNode [2, 0, 1, 0, 3, 1, 5]) (taking .halted)).tables.speakers[(0 : Fin 24)]).slot = 5 ∧
    ((after (.tableWrite toNode [2, 0, 1, 0, 3, 1, 5]) (taking .halted)).tables.speakers[(0 : Fin 24)]).enabled = true :=
  by decide

theorem test_tableRead_volume :
    ((after (.tableRead toNode [7, 45, 1, 0, 1]) (taking .halted)).replies.map (·.payload)) =
      [[0, 7, 45, 1, 0, 1, 0xFF, 0x70]] := by decide

theorem test_eqSelect_in_halted :
    ((after (.eqSelect toNode [0, 0, 1, 0, 7]) (taking .halted)).eq.records[(0 : Fin 24)]).current = .set 7 := by decide

theorem test_bad_request : (after (.cabin toNode []) (taking .active)).events = 0x10 := by decide

theorem test_message_waits_in_active : (after (.cabin toNode [0]) (linked .active)).liveLane.queue.length = 1 := by
  decide +kernel

/-! ## Witnesses: states and operands that meet the hypotheses of the statements -/

/-- A node with its head side locked after `miss` missed frames. -/
def missing (s : NodeState) (miss : Nat) : Node :=
  { control := { node := s }, link := { head := .locked miss, amp := .locked 0, address := some 1 } }

theorem witness_ResetInputHoldsTheNode : Instr.run ≠ .resetRelease := by decide

theorem witness_HeadHuntCountsSyncs :
    ∀ run ∈ [0, 1, 6, 7], ({ link := { head := .hunting run } } : Node).control.resetIn = false ∧
      ({ link := { head := .hunting run } } : Node).link.head = .hunting run ∧ run < 8 := by decide

theorem witness_FirstLockLatchesTheAddress :
    ({ link := { head := .hunting 7 } } : Node).control.resetIn = false ∧
    ({ link := { head := .hunting 7 } } : Node).link.head = .hunting 7 ∧
    ({ link := { head := .hunting 7 } } : Node).link.address = none := by decide

theorem witness_RelockRestartsEveryBlock : ∀ a ∈ [0#3, 3#3, 4#3, 7#3], ∀ r ∈ [NodeState.starting, .passive, .active],
    ∃ n : Node, n.control.resetIn = false ∧ n.link.head = .hunting 7 ∧ n.link.address = some a ∧
      n.control.returnState = some r ∧ r ≠ .detached := by
  intro a _ r hr
  refine ⟨{ control := { returnState := some r }, link := { head := .hunting 7, address := some a } },
    rfl, rfl, rfl, rfl, ?_⟩
  simp at hr; rcases hr with rfl | rfl | rfl <;> decide

theorem witness_HeadLossDetaches : (missing .active 3).link.head = .locked 3 := by decide

theorem witness_ReceivedFrameIsForwarded :
    (missing .passive 3).link.head = .locked 3 ∧ (missing .passive 3).control.node = .passive ∧
    (missing .halted 0).control.node = .halted ∧
    (({ speakers := .ofFn fun k => { enabled := k == 23, slot := 31 } } : Tables).speakers[(23 : Fin 24)]).enabled = true ∧
    (({ speakers := .ofFn fun k => { enabled := k == 23, slot := 31 } } : Tables).speakers[(23 : Fin 24)]).slot = 31 ∧
    (∀ j : Fin 24, ({} : Tables).speakers[j].enabled = false) := by decide

/-- A node two frames into a run of misses, with a message half assembled on its setting lane. -/
def halfway (s : NodeState) (k : Nat) : Node :=
  { control := { node := s }, link := { head := .locked 2, address := some 1, frameInBlock := k },
    settingLane := { assembly := .assembling [1] } }

theorem witness_MissedFrameIsSubstituted :
    (missing .active 0).link.head = .locked 0 ∧ 2 < 3 ∧ ∀ s ∈ [NodeState.active, .halted, .passive], ∀ k ∈ [0, 31],
      ∃ b : Node, (halfway s k).link.head = .locked 2 ∧
        b = completeBoundary { halfway s k with link := { (halfway s k).link with head := .locked 3 } } ∧
        b.control.node = s ∧ b.settingLane.assembly = .assembling [1] ∧ b.liveLane.assembly = .skipping ∧
        b.link.frameInBlock = k := by
  refine ⟨rfl, by decide, fun s _ k _ => ⟨_, rfl, rfl, rfl, rfl, rfl, rfl⟩⟩

theorem witness_EveryThirtySecondFrameOpensABoundary : ∀ k ∈ [0, 30, 31], ∃ n m x : Node, n.link.head = .locked 2 ∧
    n.link.frameInBlock = k ∧ n.boundary = [] ∧ exec .missedFrame ⟨n, []⟩ = .next ⟨m, []⟩ ∧
    exec .missedFrame ⟨{ n with link := { n.link with frameInBlock := 30 } }, []⟩ = .next ⟨x, []⟩ ∧
    m.control.node ≠ .detached ∧ m.control.node ≠ .passive := by
  intro k hk
  refine ⟨{ control := { node := .starting }, link := { head := .locked 2, frameInBlock := k, address := some 0 } },
    _, _, rfl, rfl, rfl, rfl, rfl, ?_⟩
  simp at hk; rcases hk with rfl | rfl | rfl <;> decide +kernel

theorem witness_UpstreamFrameReportsTheNode :
    (∃ b : Node, b = completeBoundary { missing .fault 2 with link := { (missing .fault 2).link with head := .locked 3 } } ∧
      b.link.address = some 1 ∧ b.control.node = .fault ∧ (1#3).toNat = (1 : Fin 4).val ∧ (1#3).toNat ≠ (3 : Fin 4).val) ∧
    ∃ b : Node, b = completeBoundary { missing .passive 0 with link := { (missing .passive 0).link with head := .locked 0 } } ∧
      b.control.node = .passive := by
  exact ⟨⟨_, rfl, by decide⟩, ⟨_, rfl, by decide⟩⟩

/-- A reply with no payload, of 5 bytes. -/
def shortReply : Message := { dest := 0xE, origin := 1, kind := 0x93, tag := 5, payload := [] }

theorem witness_ReplyIsSentByteByByte : ∀ pos ∈ [0, 3, 4], ∃ n b : Node, n.link.head = .locked 0 ∧
    (frame 1 1).code ≠ 4 ∧ b = completeBoundary { n with link := { n.link with head := .locked 0 } } ∧
    inService b.control.node = true ∧ b.merger.output = .sendingReply pos ∧ b.replies = [shortReply] ∧
    pos < (messageBytes shortReply).length ∧ ([.data 7], .inMessage 1) = mergerInput .ready ⟨.data, 7⟩ ∧
    ([.abort], .skipping) = mergerInput (.inMessage 131) ⟨.data, 7⟩ := by
  intro pos hp
  refine ⟨{ linked .active with merger := { output := .sendingReply pos }, replies := [shortReply] }, _, rfl, by decide,
    rfl, rfl, rfl, rfl, ?_, rfl, rfl⟩
  simp at hp; rcases hp with rfl | rfl | rfl <;> decide

theorem witness_PassThroughGoesFirst :
    (∀ e ∈ [StoreEntry.data 1, .fin 1, .abort], ∀ o ∈ [MergerOut.between, .sendingPass, .aborting],
      ∀ r ∈ [[], [shortReply]], ∃ n b : Node,
      n.link.head = .locked 0 ∧ (frame 1 1).code ≠ 4 ∧
      b = completeBoundary { n with link := { n.link with head := .locked 0 } } ∧ inService b.control.node = true ∧
      b.merger.output = o ∧ b.replies = r ∧ b.link.amp = .locked 0 ∧ b.link.upPrev = none ∧
      ([], .ready) = mergerInput b.merger.input ⟨.idle, 0⟩ ∧ (b.merger.store = [e] ∨ b.merger.store = [])) ∧
    ∃ n b : Node, n.link.head = .locked 0 ∧ b = completeBoundary { n with link := { n.link with head := .locked 0 } } ∧
      inService b.control.node = true ∧ b.merger.output = .between ∧ b.merger.store = [] ∧ b.merger.input = .ready ∧
      b.link.amp = .locked 0 ∧ b.link.upPrev = some { reply := ⟨.data, 7⟩, status := allAbsent } ∧
      ([.data 7], .inMessage 1) = mergerInput b.merger.input ⟨.data, 7⟩ := by
  refine ⟨fun e _ o _ r _ => ⟨{ linked .active with merger := { output := o, store := [e] }, replies := r }, _, rfl,
    by decide, rfl, rfl, rfl, rfl, rfl, rfl, rfl, .inl rfl⟩, ⟨{ linked .active with
      link := { (linked .active).link with upPrev := some { reply := ⟨.data, 7⟩, status := allAbsent } }
      merger := { input := .ready } }, _, rfl, rfl, rfl, rfl, rfl, rfl, rfl, rfl, rfl⟩⟩

theorem witness_ReplyStartsBetweenMessages :
    ∃ n b c d : Node, b = completeBoundary n ∧ inService b.control.node = true ∧ b.merger.output = .between ∧
      b.merger.store = [] ∧ b.replies ≠ [] ∧ b.merger.input = .skipping ∧
      c = completeBoundary { n with replies := [] } ∧ inService c.control.node = true ∧ c.merger.output = .between ∧
      c.merger.store = [] ∧ c.replies = [] ∧
      d = completeBoundary { n with merger := { input := .inMessage 1 } } ∧ inService d.control.node = true ∧
      d.merger.output = .between ∧ d.merger.store = [] ∧ d.merger.input = .inMessage 1 ∧
      (completeBoundary { n with merger := { output := .sendingPass, store := [.abort] } }).merger.output ≠ .between ∧
      (completeBoundary { n with merger := { store := [.abort] } }).merger.store ≠ [] ∧
      inService (completeBoundary (linked .passive)).control.node = false :=
  ⟨{ linked .active with replies := [shortReply] }, _, _, _, rfl, rfl, rfl, rfl, List.cons_ne_nil _ _, rfl, rfl, rfl, rfl,
    rfl, rfl, rfl, rfl, rfl, rfl, rfl, by decide, by decide, rfl⟩

theorem witness_AmpSideHuntsLocksAndLoses :
    (∀ run ∈ [0, 1, 6, 7], ({ link := { head := .locked 0, amp := .hunting run } } : Node).link.amp = .hunting run ∧
      run < 8) ∧
    ({ link := { head := .locked 0 } } : Node).link.head = .locked 0 ∧
    ({} : Node).link.amp = .hunting 0 ∧ ({} : Node).link.head = .hunting 0 ∧
    ∀ miss ∈ [0, 2, 3], ({ link := { amp := .locked miss } } : Node).link.amp = .locked miss := by decide

theorem witness_CodesMoveTheWorkingStates : ∀ s ∈ [NodeState.fault, .halted, .active],
    ∀ cand ∈ [some Code.quiet, none], ∀ acc ∈ [Code.quiet, .run], ∃ n b : Node, b = completeBoundary n ∧
      b.control.node ≠ .detached ∧ b.control.node = s ∧ b.link.candidate = cand ∧ b.link.accepted = acc := by
  intro s hs cand _ acc _
  refine ⟨{ linked s with link := { accepted := acc, candidate := cand } }, _, rfl, ?_, rfl, rfl, rfl⟩
  simp at hs; rcases hs with rfl | rfl | rfl <;> (intro h; cases h)

theorem witness_ClearRestoresTheNode : ∀ cand ∈ [some Code.clear, some .run, none], ∀ acc ∈ [Code.clear, .run],
    ∃ n b : Node, b = completeBoundary n ∧ b.control.node ≠ .detached ∧ b.link.candidate = cand ∧
      b.link.accepted = acc :=
  fun cand _ acc _ =>
    ⟨{ linked .active with link := { accepted := acc, candidate := cand } }, _, rfl, nofun, rfl, rfl⟩

theorem witness_HopMismatchFaults : ∀ s ∈ [NodeState.starting, .active, .fault, .passive], ∀ m ∈ [0, 1], ∃ n b : Node,
    b = completeBoundary n ∧ b.link.address = some 3 ∧ b.control.node = s ∧ b.link.mismatch = m ∧ (2#3) ≠ 3#3 := by
  intro s _ m _
  exact ⟨{ control := { node := s }, link := { address := some 3, mismatch := m } }, _, rfl, rfl, rfl, rfl, by decide⟩

theorem witness_AcceptedCodeNeedsTwoFrames :
    step ⟨{ linked .active with link := { accepted := .run, candidate := some .quiet } }, [.quiet]⟩ =
      .next ⟨after .quiet { linked .active with link := { accepted := .run, candidate := some .quiet } }, []⟩ ∧
    (after .quiet { linked .active with link := { accepted := .run, candidate := some .quiet } }).link.accepted =
      .quiet ∧
    step ⟨linked .active, [.downstreamFrame (frame 1 2)]⟩ = .next ⟨after (.downstreamFrame (frame 1 2)) (linked .active), []⟩ ∧
    (linked .active).link.head = .locked 0 ∧ (linked .active).control.node ≠ .detached ∧
    (after (.downstreamFrame (frame 1 2)) (linked .active)).link.candidate = some .quiet ∧
    step ⟨linked .active, [.missedFrame]⟩ = .next ⟨after .missedFrame (linked .active), []⟩ :=
  ⟨rfl, by decide, rfl, rfl, by decide, by decide, rfl⟩

theorem witness_BlockBoundaryTakesEveryWorkOnce :
    (due .active allWorks).boundary ≠ [] ∧ (linked .active).boundary = [] ∧
    requestKind .live { shortReply with kind := 0x27, payload := [3, 2, 0] } = some .rampControl ∧
    (3 : Byte).toNat.testBit 0 = true ∧ (3 : Byte).toNat.testBit 1 = true := by decide

theorem witness_BoundaryObeysTheSlews :
    (due .active allWorks).settingLane.queue = [] ∧ (due .active allWorks).boundary.count .compose = 1 ∧
    exec .blockBoundary ⟨due .active allWorks, []⟩ = .next ⟨completeBoundary (due .active allWorks), []⟩ :=
  ⟨rfl, by decide, rfl⟩

theorem witness_ComposesPairs :
    (due .quiet [.compose]).control.node = .quiet ∧ (due .active [.compose]).control.node = .active ∧
    (due .active [.compose]).boundary = [.compose] ∧
    (0 : Int) ≤ 0 ∧ (∀ r : Fin 4, r ≠ 0 → (due .active [.compose]).detectors[r].present = true → False) ∧
    max (-960) (min 0 ((-960 : Int) + 0 + 0)) = -960 ∧
    (due .active [.compose]).levels.pairs[pairIndex 0 0].applied = -960 ∧
    (due .active [.compose]).tables.pairs[pairIndex 0 0].ramp = none := by decide

theorem witness_ComposesSpeakers :
    (due .active [.compose]).tables.speakers[(0 : Fin 24)].zone = 0 ∧
    (due .active [.compose]).tables.speakers[(0 : Fin 24)].side = .left ∧
    (due .active [.compose]).live.zones[(0 : Fin 4)].balance = 0 ∧
    (due .active [.compose]).tables.balance.toList.getD 0 0 = 0 ∧
    (due .active [.compose]).tables.speakers[(0 : Fin 24)].enabled = false ∧
    (mixNode).tables.speakers[(2 : Fin 24)].enabled = true ∧ mixNode.tables.speakers[(2 : Fin 24)].ramp = none := by
  decide

theorem witness_LinearGainConverts :
    (-959 : Int) = 48 * (-20) + 1 ∧ (192 : Int) = 48 * 4 + 0 ∧ (0 : Int) = 48 * 0 + 0 ∧ (-1 : Int) = 48 * (-1) + 47 := by
  decide

theorem witness_CurveIsInterpolated :
    List.Pairwise (fun a b : Breakpoint => a.speed < b.speed) [⟨0, 0, 0⟩, ⟨200, 24, 8⟩, ⟨480, 60, 24⟩] ∧
    List.Pairwise (fun a b : Breakpoint => a.speed < b.speed) [] ∧ 0 ≤ 0 ∧ 480 ≤ 1200 ∧ 0 < 1 ∧ 479 < 480 := by decide

theorem witness_TrackerTakesItsStep :
    inService (due .starting [.track]).control.node = true ∧ (due .starting [.track]).boundary = [.track] ∧
    (∀ st ∈ [SpeedState.none, .live, .stale, .failed],
      ({ due .active [.track] with tracker := { state := st, stale := 749, fail := 2999 } } : Node).tracker.state = st) ∧
    750 ≤ 749 + 1 ∧ 748 + 1 < 750 ∧ 3000 ≤ 2999 + 1 ∧
    min 192 ((curveValue ({} : Curve).points 0).1 + (0 + (0 + (0 + 0)))) = 0 ∧ (0 : Nat) + 6 < 7 ∧ ¬(0 + 6 < 6) := by
  decide

theorem witness_GuardTakesItsStep :
    inService (loud true {}).control.node = true ∧ (loud true {}).boundary = [.guardStep] ∧
    (loud true {}).tables.zones[(0 : Fin 4)].guardOn = true ∧ (loud true {}).tables.zones[(1 : Fin 4)].guardOn = false ∧
    (loud true {}).tables.speakers[(0 : Fin 24)].zone = 0 ∧ (loud true {}).levels.clips[(0 : Fin 24)].last = true ∧
    (∀ k : Fin 24, (loud false {}).tables.speakers[k].zone = 0 → (loud false {}).levels.clips[k].last = false) ∧
    (∀ g ∈ [({ hold := 1 } : Guard), { code := -1, recover := 14 }, { code := -1, recover := 13 }, {}],
      (loud false g).guards[(0 : Fin 4)] = g) := by decide

theorem witness_DetectorJudgesTheBlock :
    ∀ d ∈ [({ mode := .on } : Detector), { mode := .auto, peak := 65536 }, { mode := .auto, present := true, quiet := 149 },
        { mode := .auto, present := true, quiet := 148 }, { mode := .auto }],
      ({ due .fault [.judge 3] with detectors := .replicate 4 d } : Node).detectors[(3 : Fin 4)] = d ∧
      inService (due .fault [.judge 3]).control.node = true ∧ (due .fault [.judge 3]).boundary = [.judge 3] ∧
      (due .fault [.judge 3]).tables.presence[(3 : Fin 4)].threshold = 65536 ∧
      (due .fault [.judge 3]).tables.presence[(3 : Fin 4)].hold = 150 := by decide

theorem witness_RampUnitTakesItsStep :
    (∀ u ∈ [({} : RampUnit), { mode := .run }, { mode := .step, segment := some ⟨0, -72, 11, 1⟩ },
        { mode := .once, segment := some ⟨0, -72, 11, 11⟩ }, { mode := .run, index := 3 },
        { mode := .run, index := 3, loops := .count 1 }],
      inService (chime u).control.node = true ∧ (chime u).boundary = [.ramp 1] ∧ (chime u).ramps[(1 : Fin 6)] = u) ∧
    (chime {}).tables.ramps[(1 : Fin 6)].segments[2]? = some ⟨0, 23⟩ ∧
    (chime {}).tables.ramps[(1 : Fin 6)].segments.length = 3 ∧ (chime {}).tables.ramps[(1 : Fin 6)].loopStart = none := by
  decide

theorem witness_TrackerAndGuardEventsComeAbout :
    (∀ t ∈ [({ state := .live, stale := 749 } : Tracker), { state := .stale, fail := 2999 },
        { state := .failed, zones := .replicate 4 { smoothed := 1, release := 29 } }],
      Work.track ∈ ({ due .active [.track] with tracker := t } : Node).boundary ∧
      ({ due .active [.track] with tracker := t } : Node).tracker = t ∧ 750 ≤ 749 + 1 ∧ 3000 ≤ 2999 + 1 ∧ 0 < 1 ∧
      30 ≤ 29 + 1) ∧
    Work.guardStep ∈ (loud false {}).boundary ∧ inService (loud false {}).control.node = true ∧
    (loud false {}).tables.zones[(0 : Fin 4)].guardOn = true ∧
    (∀ k : Fin 24, (loud false {}).tables.speakers[k].zone = 0 → (loud false {}).levels.clips[k].last = false) ∧
    (loud false { hold := 1 }).guards[(0 : Fin 4)].hold = 1 ∧
    (loud false { code := -1, recover := 14 }).guards[(0 : Fin 4)] = { code := -1, hold := 0, recover := 14 } ∧
    15 ≤ 14 + 1 := by decide

theorem witness_RampSegmentCloses :
    Work.ramp 1 ∈ (chime {}).boundary ∧ inService (chime {}).control.node = true ∧
    (chime { mode := .once, segment := some ⟨0, -72, 11, 11⟩ }).ramps[(1 : Fin 6)].segment = some ⟨0, -72, 11, 11⟩ ∧
    (chime { mode := .once, segment := some ⟨0, -72, 11, 11⟩ }).ramps[(1 : Fin 6)].mode = .once ∧
    ([⟨-5, 0⟩] : List Machine.Segment)[0]? = some { target := -5, duration := 0 } := by decide

/-- Speaker 2 fading in slot 1, speaker 4 waiting. -/
def fading (pending : Option SetRef) (waiting : List (Fin 24)) : Node :=
  { due .active [.complete 1] with
    eq := {
      slots := .ofFn fun i => if i = 1 then some { speaker := 2, length := 16, count := 512 } else none
      waiting := waiting
      records := .ofFn fun k =>
        if k = 2 then { phase := .fading (.set 7) pending } else if k = 4 then { phase := .waiting (.set 9) } else {} } }

theorem witness_CrossfadeCompletes :
    (∀ p ∈ [some (SetRef.set 8), none], ∀ w ∈ [[], [(4 : Fin 24)]],
      inService (fading p w).control.node = true ∧ Work.complete 1 ∈ (fading p w).boundary ∧
      (∀ j : Fin 8, j < 1 → Work.complete j ∈ (fading p w).boundary → fadeDue j (fading p w) = false) ∧
      (fading p w).eq.slots[(1 : Fin 8)] = some { speaker := 2, length := 16, count := 512 } ∧ 32 * 16 ≤ 512 ∧
      (fading p w).eq.records[(2 : Fin 24)].phase = .fading (.set 7) p ∧ (fading p w).eq.waiting = w ∧
      (fading p w).eq.records[(4 : Fin 24)].phase = .waiting (.set 9)) ∧
    (fading none [4]).eq.slots[(0 : Fin 8)] = none := by decide

theorem witness_StartingCountsAndEnds :
    (due .starting [.starting]).control.node = .starting ∧ (due .starting [.starting]).boundary = [.starting] ∧
    (∀ c ∈ [0, 254, 255],
      ({ due .starting [.starting] with control := { node := .starting, clearCount := c } } : Node).control =
        { node := .starting, clearCount := c }) ∧ 254 + 1 < 256 ∧
    Work.starting ∈ (due .starting [.starting]).boundary ∧ Work.settingTake ∉ (due .starting [.starting]).boundary := by
  decide

/-- A node of address 1 that HALT governs and a frame of CLEAR has reached, `miss` frames missed. -/
def offered (s : NodeState) (miss i : Nat) : Node :=
  { control := { node := s },
    link := { head := .locked miss, address := some 1, candidate := some .clear, frameInBlock := i } }

theorem witness_FrameTakesCodeHopCountPeaksAndCells : ∀ s ∈ [NodeState.starting, .active, .fault, .passive],
    ∀ c ∈ [(1#4, Instr.run), (2#4, .quiet), (3#4, .halt), (4#4, .clear 2)], ∀ i ∈ [0, 31],
    ∃ b x y z : Node, (offered s 3 i).link.head = .locked 3 ∧
      b = completeBoundary { offered s 3 i with link := { (offered s 3 i).link with head := .locked 0 } } ∧
      b.control.node = s ∧ b.control.node ≠ .detached ∧ b.link.candidate = some .clear ∧ b.link.accepted = .halt ∧
      b.link.frameInBlock = i ∧ (frame 2 c.1).code = c.1 ∧ exec c.2 ⟨b, []⟩ = .next ⟨x, []⟩ ∧
      exec (.hopMismatchFault 2) ⟨x, []⟩ = .next ⟨y, []⟩ ∧ (frame 2 0).code = 0 ∧ 4 < (frame 2 5).code.toNat ∧
      exec (.hopMismatchFault 2) ⟨{ b with link := { b.link with candidate := none } }, []⟩ = .next ⟨z, []⟩ := by
  intro s hs c hc i _
  refine ⟨offered s 0 i, after c.2 (offered s 0 i), _, _, rfl, rfl, rfl, ?_, rfl, rfl, rfl, rfl, ?_, rfl, rfl, by decide,
    rfl⟩
  · simp at hs
    rcases hs with rfl | rfl | rfl | rfl <;> exact nofun
  · simp at hc
    rcases hc with rfl | rfl | rfl | rfl <;> rfl

/-- The node of `mixNode` with RUN accepted, as a frame of hop count 1 and code RUN finds it. -/
def playing : Node := { mixNode with link := { mixNode.link with accepted := .run } }

theorem witness_SpeakerPlaysItsPremix :
    playing.link.head = .locked 0 ∧ playing.boundary = [] ∧ playing.control.node = .active ∧
    (frame 1 1).code = codeNumber playing.link.accepted ∧ playing.link.address = some (frame 1 1).hop ∧
    SlotsDistinct playing ∧ playing.tables.speakers[(2 : Fin 24)].enabled = true ∧
    playing.eq.records[(2 : Fin 24)].phase = .idle ∧
    chainOutput (sectionsOf playing.tables .flat) (.replicate 8 {}) 6250 = 6250 ∧
    (∃ h : Held, (fading none []).eq.slots[(1 : Fin 8)] = some h ∧ h.speaker = 2) ∧
    (∀ j : Fin 8, (fading none []).eq.slots[j] ≠ none → j = 1) ∧ 0 < 3 ∧
    chainOutput (sectionsOf playing.tables .flat) (.replicate 8 {}) 0 = 0 := by
  refine ⟨rfl, rfl, rfl, rfl, rfl, ?_, rfl, rfl, rfl, ⟨_, rfl, rfl⟩, by decide, by decide, rfl⟩
  unfold SlotsDistinct
  decide

theorem witness_ComposesSpeakersAndFormsTheShelf :
    (due .quiet [.shelf]).control.node = .quiet ∧ (due .quiet [.shelf]).boundary = [.shelf] ∧
    (due .active [.shelf]).control.node = .active := by decide

/-- A node whose live lane has an assembly record and a queue. -/
def lane (a : Assembly) (q : List Message) : Node := { linked .active with liveLane := { assembly := a, queue := q } }

theorem witness_SectionsFilterInOrder : ([] : List Section).length ≤ 8 := by decide

theorem witness_CellsActOnTheAssemblyRecord :
    (∀ a ∈ [Assembly.ready, .skipping, .assembling [1], .assembling (List.replicate 131 1),
      .assembling (List.replicate 132 1)], (laneOf .live (lane a [])).assembly = a) ∧
    (List.replicate 131 (1 : Byte)).length < 132 ∧ (List.replicate 132 (1 : Byte)).length = 132 := by
  refine ⟨fun a _ => rfl, ?_, ?_⟩ <;> simp

/-- The message of 9.1.1 as bytes. -/
def identBytes : List Byte := [0x1E, 0x13, 0x05, 0x00, 0xCA]

theorem witness_MessageIsJudgedStepByStep :
    (([0x1E, 0x13, 0x05] : List Byte).length < 4) ∧ ([0x1E, 0x13, 0x05, 0x01, 0xCA] : List Byte).length ≠ 1 + 5 ∧
    4 ≤ identBytes.length ∧ identBytes.length ≤ 132 ∧ identBytes.length = (identBytes.getD 3 0).toNat + 5 ∧
    identBytes = [0x1E, 0x13, 0x05, 0x00] ++ [0xCA] ∧ identBytes.foldl (fun a b => a + b.toNat) 0 % 256 = 0 ∧
    ([0x1E, 0x13, 0x05, 0x00, 0xCB] : List Byte).foldl (fun a b => a + b.toNat) 0 % 256 ≠ 0 ∧
    (identBytes.getD 0 0).extractLsb' 4 4 = addressNibble (linked .active) ∧
    (identBytes.getD 0 0).extractLsb' 4 4 ≠ addressNibble (missing .active 0 |> fun n => { n with link := {} }) ∧
    (laneOf .live (lane .ready (List.replicate 7 shortReply))).queue.length < laneCapacity .live ∧
    laneCapacity .live ≤ (laneOf .live (lane .ready (List.replicate 8 shortReply))).queue.length := by decide

theorem witness_MessageAssemblesFromItsCells :
    shortReply.payload.length ≤ 127 ∧ (laneOf .live (lane .ready [])).assembly = .ready ∧
    ({ shortReply with dest := 1 } : Message).dest = addressNibble (lane .ready []) ∧
    (laneOf .live (lane .ready [])).queue.length < laneCapacity .live ∧
    (List.replicate 127 (0 : Byte)).length ≤ 127 := by decide +kernel

theorem witness_MessagesWaitInTheirQueue :
    inService (linked .passive).control.node = false ∧ ({ toNode with dest := 3 } : MsgHeader).dest ≠
      addressNibble (linked .active) ∧ ({ toNode with dest := 3 } : MsgHeader).dest ≠ 0xF ∧
    inService (linked .active).control.node = true ∧ toNode.dest = addressNibble (linked .active) ∧
    laneDue (kindLane .level) (linked .active) = false ∧
    (laneOf (kindLane .level) (lane .ready (List.replicate 7 shortReply))).queue.length < laneCapacity .live ∧
    laneCapacity .live ≤ (laneOf (kindLane .level) (lane .ready (List.replicate 8 shortReply))).queue.length := by decide

theorem witness_LaneTakesItsHead :
    (due .starting [.liveTake]).control.node = .starting ∧ (due .halted [.settingTake]).control.node = .halted ∧
    (due .halted [.settingTake]).boundary = [.settingTake] ∧
    (laneOf .setting { due .halted [.settingTake] with settingLane := { queue := [shortReply] } }).queue = [shortReply] ∧
    requestKind .setting { shortReply with kind := 0x13 } = some .identRead ∧ isRead .identRead = true ∧
    requestKind .setting shortReply = none ∧ 0x13 < shortReply.kind.toNat ∧ (0x0F : Byte).toNat < 0x10 ∧
    (0x13 : Byte).toNat < 0x20 ∧ 0x28 < (0x29 : Byte).toNat ∧
    ({ due .halted [.settingTake] with replies := List.replicate 4 shortReply } : Node).replies.length = 4 := by decide

/-- A message of every kind arrives at a boundary of HALTED, QUIET and ACTIVE: the hypothesis of every statement about
a message. -/
theorem witness_arrivesAtBoundary (k : Kind) : ∀ s ∈ [NodeState.halted, .quiet, .active],
    arrivesAtBoundary k toNode (taking s) := by
  intro s hs
  simp at hs
  rcases hs with rfl | rfl | rfl <;> cases k <;> exact ⟨rfl, rfl, .inl rfl⟩

theorem witness_BadRequestsAreDiscarded :
    arrivesAtBoundary .cabin toNode (taking .active) ∧ ([] : List Byte).length ≠ 1 ∧ ([] : List Byte).length ≤ 127 ∧
    arrivesAtBoundary .identRead { toNode with dest := 0xF } (taking .active) ∧
    ([0, 0, 0, 0] : List Byte).length < 5 :=
  ⟨⟨rfl, rfl, .inl rfl⟩, by decide, by decide, ⟨rfl, rfl, .inr rfl⟩, by decide⟩

theorem witness_LevelTrimBalanceAndMuteSetTheirState : arrivesAtBoundary .level toNode (taking .active) ∧
    arrivesAtBoundary .programTrim toNode (taking .halted) ∧ arrivesAtBoundary .balanceFade toNode (taking .halted) ∧
    arrivesAtBoundary .mute toNode (taking .active) ∧ (2 : Byte) ≠ 0 ∧ (2 : Byte) ≠ 1 ∧
    (3 : Byte).toNat = (3 : Fin 4).val ∧ 3 < (4 : Byte).toNat ∧ 1 < (2 : Byte).toNat ∧
    8388608 = 65536 * (0x80 : Byte).toNat + 256 * (0 : Byte).toNat + (0 : Byte).toNat :=
  ⟨⟨rfl, rfl, .inl rfl⟩, ⟨rfl, rfl, .inl rfl⟩, ⟨rfl, rfl, .inl rfl⟩, ⟨rfl, rfl, .inl rfl⟩, by decide⟩

theorem witness_SpeedReportsMoveTheTracker : arrivesAtBoundary .speed toNode (taking .active) ∧
    160 = min 1200 (256 * (0 : Byte).toNat + (160 : Byte).toNat) ∧ (taking .active).tracker.state = .none ∧
    (taking .active).tracker.band < 1 ∧ (taking .active).tables.settings.theta1 ≤ 160 ∧
    160 < (taking .active).tables.settings.theta2 ∧ 160 < (taking .active).tables.settings.theta3 ∧
    ((140 : Nat) : Int) = max 0 (140 + (((140 : Int) - 140) * 4).tdiv 16) ∧
    ((taking .active).tables.settings.theta1 : Int) - (taking .active).tables.settings.bandHysteresis ≤ 140 ∧
    (139 : Int) < ((taking .active).tables.settings.theta1 : Int) - (taking .active).tables.settings.bandHysteresis ∧
    1 < (2 : Byte).toNat := ⟨⟨rfl, rfl, .inl rfl⟩, by decide⟩

theorem witness_CabinAndPresenceSetTheirState : arrivesAtBoundary .cabin toNode (taking .active) ∧
    arrivesAtBoundary .presence toNode (taking .active) ∧ 2 < (3 : Byte).toNat :=
  ⟨⟨rfl, rfl, .inl rfl⟩, ⟨rfl, rfl, .inl rfl⟩, by decide⟩

/-- A RAMP_CONTROL that runs units 0 and 5 from index 0, as it waits in the live queue. -/
def rampMessage : Message := { dest := 1, origin := 0xE, kind := 0x27, tag := 5, payload := [33, 2, 0] }

theorem witness_RampControlSetsUnits : arrivesAtBoundary .rampControl toNode (taking .active) ∧ (63 : Byte).toNat < 64 ∧
    (16 : Byte).toNat ≤ 16 ∧ 3 < (4 : Byte).toNat ∧ 63 < (64 : Byte).toNat ∧ 16 < (17 : Byte).toNat ∧ (17 : Byte) ≠ 0xFF ∧
    (∀ u : Fin 6, .ramp u ∉ (taking .active).boundary) ∧
    arrivesAtBoundary .rampControl toNode (due .active [.liveTake, .ramp 5]) ∧ (33 : Byte).toNat.testBit 0 = true ∧
    (33 : Byte).toNat.testBit 5 = true ∧ .ramp 5 ∈ (due .active [.liveTake, .ramp 5]).boundary ∧
    .ramp 0 ∉ (due .active [.liveTake, .ramp 5]).boundary ∧
    ∀ s ∈ [NodeState.halted, .quiet, .active], ∃ n : Node, n.control.node = s ∧ n.boundary = allWorks ∧
      n.settingLane.queue = [] ∧ n.liveLane.queue = [rampMessage] ∧ rampMessage.payload = [33, 2, 0] ∧
      (∀ w : Fin 6, n.tables.ramps[w].segments[0]? = some { target := -72, duration := 11 }) ∧
      exec .blockBoundary ⟨n, []⟩ = .next ⟨completeBoundary n, []⟩ :=
  ⟨⟨rfl, rfl, .inl rfl⟩, by decide, by decide, by decide, by decide, by decide, by decide, by decide,
    ⟨rfl, rfl, .inl rfl⟩, by decide, by decide, by decide, by decide, fun s _ =>
    ⟨{ chime {} with control := { node := s }, boundary := allWorks, liveLane := { queue := [rampMessage] } }, rfl, rfl,
      rfl, rfl, rfl, show ∀ w : Fin 6, (chime {}).tables.ramps[w].segments[0]? = _ by decide, rfl⟩⟩

theorem witness_StatusReadRepliesThenClears : arrivesAtBoundary .statusRead toNode (taking .active) ∧ toNode.dest ≠ 0xF ∧
    (taking .active).replies.length < 4 ∧ (taking .active).link.address = some 1 ∧
    (taking .active).control.node = .active ∧ (taking .active).link.accepted = .halt ∧
    (taking .active).tracker.state = .none ∧ (3 : Byte).toNat = (3 : Fin 4).val ∧
    (0 : Int) = min ((taking .active).tracker.zones[(3 : Fin 4)].smoothed : Int)
      (max 0 ((taking .active).tables.zones[(3 : Fin 4)].ceiling - (taking .active).live.zones[(3 : Fin 4)].volumeCode)) ∧
    (∀ r : Fin 4, (taking .active).detectors[r].present = false) ∧ (23 : Byte).toNat = (23 : Fin 24).val ∧
    (taking .active).eq.records[(23 : Fin 24)].phase = .idle ∧
    (fading (some .flat) [4]).eq.records[(4 : Fin 24)].phase = .waiting (.set 9) ∧
    (fading (some .flat) [4]).eq.records[(2 : Fin 24)].phase = .fading (.set 7) (some .flat) ∧
    3 < (4 : Byte).toNat ∧ 23 < (24 : Byte).toNat ∧ 2 < (3 : Byte).toNat := ⟨⟨rfl, rfl, .inl rfl⟩, by decide⟩

theorem witness_IdentReadNamesThePart : arrivesAtBoundary .identRead toNode (taking .active) ∧ toNode.dest ≠ 0xF ∧
    ({ taking .active with replies := List.replicate 3 shortReply } : Node).replies.length < 4 :=
  ⟨⟨rfl, rfl, .inl rfl⟩, by decide⟩

theorem witness_TableReadReturnsWholeElements : arrivesAtBoundary .tableRead toNode (taking .active) ∧ toNode.dest ≠ 0xF ∧
    (taking .active).replies.length < 4 ∧ 13 < (14 : Byte).toNat ∧
    (∀ id ∈ [(1 : Byte), 13], ∃ (size : Nat) (groups : Nat → List (List Byte)),
      (id = 1 ∧ size = 12 ∧ ∀ j : Fin 12, groups j.val =
          [[flagCode (taking .active).tables.sources[j].enabled], [indexCode (taking .active).tables.sources[j].slot],
            [indexCode (taking .active).tables.sources[j].program]]) ∨
      id = 13 ∧ size = 6 ∧ ∀ j : Fin 6, ∀ r : RampList, r = (taking .active).tables.ramps[j] → groups j.val =
          [counted (r.segments.map fun s =>
              word16 (BitVec.ofInt 16 s.target) ++ word16 (BitVec.ofNat 16 s.duration)),
            [optCode r.loopStart], [r.loopCount]]) ∧
    6 ≤ (6 : Byte).toNat ∧ (5 : Byte).toNat < 6 ∧ (11 : Byte).toNat < 12 := by
  refine ⟨⟨rfl, rfl, .inl rfl⟩, by decide, by decide, by decide, ?_, by decide, by decide, by decide⟩
  intro id h
  simp at h; rcases h with rfl | rfl
  · exact ⟨12, fun _ => [[0], [0], [0]], .inl ⟨rfl, rfl, by decide⟩⟩
  · exact ⟨6, fun _ => [[0], [0xFF], [0]], .inr ⟨rfl, rfl, fun j r hr => by subst hr; revert j; decide⟩⟩

theorem witness_TableWriteGoesElementByElement : arrivesAtBoundary .tableWrite toNode (taking .active) ∧
    ([] : List Byte).length ≤ 122 ∧ 13 < (14 : Byte).toNat ∧ (13 : Byte) ≠ 0 ∧ (13 : Byte).toNat ≤ 13 ∧
    12 ≤ (12 : Byte).toNat ∧ (1 : Byte) ≠ 0 ∧
    List.Forall₂ shapeFits [.fixed 1, .fixed 1, .fixed 1] [[1], [31], [3]] ∧
    ([1, 31] : List Byte) <+: selected 7 [[1], [31], [3]] ∧ [1, 31] ≠ selected 7 [[1], [31], [3]] ∧
    (selected 7 [[1], [31], [3]] ++ [0, 0, 0]).length ≤ 122 ∧ (11 : Byte) ≠ 0xFF ∧ (254 : Byte) ≠ 0xFF :=
  ⟨⟨rfl, rfl, .inl rfl⟩, by decide, by decide, by decide, by decide, by decide, by decide,
    .cons rfl (.cons rfl (.cons rfl .nil)), ⟨[3], rfl⟩, by decide, by decide, by decide, by decide⟩

/-- Speaker 2 of `fading` enabled on slot 5, at a boundary of both lanes. -/
def conflicting (waiting : List (Fin 24)) : Node :=
  { fading none waiting with
    boundary := [.settingTake]
    tables := { speakers := .ofFn fun k => if k = 2 then { enabled := true, slot := 5 } else {} } }

/-- Speaker 0 enabled on slot 6 and refused slot 5 and slot 32; speaker 2 disabled while it fades, with and without a
speaker that waits; speaker 4 disabled while it waits, and speaker 5 in IDLE. -/
theorem witness_TableWriteWritesSpeakers : arrivesAtBoundary .tableWrite toNode (conflicting [4]) ∧
    (selected 3 [[1], [6], [0], [0], [0], [0, 0], [0], [0, 0], [0], counted [], counted []]).length ≤ 122 ∧
    (1 : Byte) = flagCode true ∧ (6 : Byte) = indexCode (6 : Fin 32) ∧ (∀ j : Fin 32, (32 : Byte) ≠ indexCode j) ∧
    (∀ j : Fin 24, j ≠ 0 → (conflicting [4]).tables.speakers[j].enabled = true →
      (conflicting [4]).tables.speakers[j].slot ≠ 6) ∧
    (conflicting [4]).tables.speakers[(2 : Fin 24)].enabled = true ∧
    (conflicting [4]).tables.speakers[(2 : Fin 24)].slot = 5 ∧ (conflicting [4]).tables.speakers[(0 : Fin 24)].enabled = false ∧
    (0 : Byte) = flagCode false ∧ (23 : Byte).toNat = (23 : Fin 24).val ∧
    (∀ w ∈ [[], [(4 : Fin 24)]], (conflicting w).eq.records[(2 : Fin 24)].phase = .fading (.set 7) none ∧
      (conflicting w).eq.slots[(1 : Fin 8)] = some { speaker := 2, length := 16, count := 512 } ∧
      (∀ f : Fin 8, (conflicting w).eq.slots[f] ≠ none → f = 1) ∧ (conflicting w).eq.waiting = w) ∧
    (conflicting [4]).eq.records[(4 : Fin 24)].phase = .waiting (.set 9) ∧
    (conflicting [4]).eq.records[(5 : Fin 24)].phase = .idle := ⟨⟨rfl, rfl, .inl rfl⟩, by decide⟩

theorem witness_TableWriteWritesLevelTables : arrivesAtBoundary .tableWrite toNode (taking .active) ∧
    (∀ g, (fun g => (256 * (3 : Byte).toNat + (255 : Byte).toNat).testBit g) g =
      (256 * (3 : Byte).toNat + (255 : Byte).toNat).testBit g) ∧
    (11 : Byte).toNat = (11 : Fin 12).val ∧ (31 : Byte) = indexCode (31 : Fin 32) ∧ (3 : Byte) = indexCode (3 : Fin 4) ∧
    (∀ b, (2 : Byte) ≠ flagCode b) ∧ (∀ j : Fin 4, (4 : Byte) ≠ indexCode j) ∧ (15 : Byte).toNat = (15 : Fin 16).val ∧
    (0xFF : Byte) = optCode (none : Option (Fin 6)) ∧ (5 : Byte) = optCode (some (5 : Fin 6)) ∧
    (63 : Byte).toNat = (63 : Fin 64).val ∧ (32 : Byte).toNat = (32 : Fin 33).val :=
  ⟨⟨rfl, rfl, .inl rfl⟩, fun _ => rfl, by decide⟩

theorem witness_TableWriteWritesSpeedEqAndRampTables : arrivesAtBoundary .tableWrite toNode (conflicting []) ∧
    (conflicting []).tables.settings.theta1 < (conflicting []).tables.settings.theta2 ∧
    (conflicting []).tables.settings.theta2 < (conflicting []).tables.settings.theta3 ∧
    (∀ n ∈ [12, 13], (selected 1 [counted ((List.replicate n (0 : BitVec 16)).map word16), [0, 0, 0, 0]]).length ≤ 122) ∧
    ([⟨0, 0, 0⟩, ⟨1200, 192, 96⟩] : List Breakpoint).Pairwise (fun x y => x.speed < y.speed) ∧
    (∀ n ∈ [8], (selected 1 [counted ((List.replicate n (0 : BitVec 24)).map fun x =>
      word24 x ++ word24 x ++ word24 x ++ word24 x ++ word24 x)]).length ≤ 122) ∧
    (7 : Byte).toNat = (7 : Fin 48).val ∧ (conflicting []).eq.records[(2 : Fin 24)].phase = .fading (.set 7) none ∧
    (∀ k : Fin 24, (conflicting []).eq.records[k].current ≠ .set 8) ∧
    (∀ n ∈ [16, 17], (selected 7 [counted ((List.replicate n (0 : BitVec 16)).map fun x => word16 x ++ word16 x),
      [15], [0xFF]]).length ≤ 122) ∧ (15 : Byte) = optCode (some (15 : Fin 16)) ∧ (5 : Byte).toNat = (5 : Fin 6).val :=
  ⟨⟨rfl, rfl, .inl rfl⟩, by decide +kernel⟩

theorem witness_EqSelectWritesBandSets : arrivesAtBoundary .eqSelect toNode (taking .halted) ∧
    (taking .halted).control.node = .halted ∧
    16777215 = 65536 * (0xFF : Byte).toNat + 256 * (0xFF : Byte).toNat + (0xFF : Byte).toNat ∧ 3 < (4 : Byte).toNat ∧
    (4 : Byte) ≠ 0xFF ∧ 47 < (48 : Byte).toNat ∧ (48 : Byte) ≠ 0xFF ∧ (47 : Byte).toNat = (47 : Fin 48).val :=
  ⟨⟨rfl, rfl, .inl rfl⟩, by decide⟩

/-- Speaker 2 enabled, with its EQ record in a phase. -/
def selecting (phase : EqPhase) (slots : Vector (Option Held) 8) (waiting : List (Fin 24)) : Node :=
  { taking .active with
    tables := { speakers := .ofFn fun k => { enabled := k == 2 } }
    eq := { records := .ofFn fun k => if k = 2 then { phase := phase } else {}, slots := slots, waiting := waiting } }

theorem witness_DesiredSetRequestsFollowTheEqState :
    ∀ phase : EqPhase, ∀ slots : Vector (Option Held) 8, ∀ waiting : List (Fin 24),
      arrivesAtBoundary .eqSelect toNode (selecting phase slots waiting) ∧
      (selecting phase slots waiting).control.node = .active ∧
      65536 * (0 : Byte).toNat + 256 * (0 : Byte).toNat + (4 : Byte).toNat = 2 ^ (2 : Fin 24).val ∧
      (selecting phase slots waiting).tables.speakers[(2 : Fin 24)].enabled = true ∧
      (selecting phase slots waiting).tables.speakers[(2 : Fin 24)].bandLinked = false ∧
      (selecting phase slots waiting).eq.records[(2 : Fin 24)].phase = phase ∧
      (selecting phase slots waiting).eq.records[(2 : Fin 24)].current = .flat ∧
      (selecting phase slots waiting).eq.slots = slots ∧ (47 : Byte).toNat = (47 : Fin 48).val ∧
      (47 : Byte) = setCode (.set 47) ∧ (selecting phase slots waiting).tables.speakers[(3 : Fin 24)].enabled = false := by
  intro phase slots waiting
  refine ⟨⟨rfl, rfl, .inl rfl⟩, rfl, by decide, rfl, rfl, ?_, ?_, rfl, by decide, rfl, rfl⟩ <;> simp [selecting]

/-- A node in service, which every command moves on, has all the laws that every step keeps. -/
theorem witness_StepsKeepTheLaws :
    Safe ⟨linked .active, [.missedFrame]⟩ ∧
    step ⟨linked .active, [.missedFrame]⟩ = .next ⟨after .missedFrame (linked .active), []⟩ := by
  refine ⟨⟨⟨by decide, by decide, by decide⟩, ?_, ⟨?_, ?_⟩, ?_, ?_, ⟨by decide, ?_, ?_, ?_, ?_⟩⟩, rfl⟩
  · unfold SlotsDistinct; decide
  · intro i; constructor <;> simp [linked, linearGain]
  · intro i; constructor <;> simp [linked, linearGain]
  · constructor <;> simp [linked, receiverFits]
  · constructor <;> simp [linked, audioRuns]
  all_goals simp [linked]

/-- R169: the marker codes, as the statement about the wire takes them. -/
theorem witness_FrameBitsSpellTheFrame :
    markerCode .idle = 0 ∧ markerCode .data = 1 ∧ markerCode .fin = 2 ∧ markerCode .abort = 3 ∧
    (List.replicate 832 true).length = 832 := by decide +kernel

end Sys2Proof.Tests
end

