-- ==== Sys2Proof/Proofs/LinearGain.lean ====
section
/-! PROOFS. The conversion of a gain code to a linear gain (R20). -/

namespace Sys2Proof.Machine

/-! ### The mantissas -/

/-- R20: each mantissa is 2^(r/48) times 2^22 rounded. The bracket is tested in integers, row by row of the table. -/
theorem mantissa_brackets (r : Fin 48) :
    (2 * mantissa r.val - 1) ^ 48 ≤ 2 ^ (r.val + 1104) ∧ 2 ^ (r.val + 1104) < (2 * mantissa r.val + 1) ^ 48 := by
  revert r
  decide +kernel

/-- Each mantissa lies in the octave that begins at unity, so that the doublings alone choose the octave of a gain. -/
theorem mantissa_octave {r : Nat} (hr : r < 48) : 2 ^ 22 ≤ mantissa r ∧ mantissa r < 2 ^ 23 := by
  have rows : ∀ i : Fin 48, 2 ^ 22 ≤ mantissa i.val ∧ mantissa i.val < 2 ^ 23 := by decide
  exact rows ⟨r, hr⟩

/-- Unity: the mantissa of remainder 0. -/
theorem mantissa_zero : mantissa 0 = 2 ^ 22 := rfl

/-- Each row of the table is below the next, which makes the whole table increasing. -/
theorem mantissas_pairwise_lt : mantissas.Pairwise (· < ·) := by
  rw [← List.isChain_iff_pairwise]
  decide

theorem mantissa_strictMono {r s : Fin 48} (hrs : r < s) : mantissa r.val < mantissa s.val := by
  have row (i : Fin 48) : mantissa i.val = mantissas[i.val]'i.isLt := List.getD_eq_getElem _ _ i.isLt
  rw [row, row]
  exact List.pairwise_iff_getElem.mp mantissas_pairwise_lt _ _ r.isLt s.isLt hrs

/-! ### Doublings and remainder -/

/-- Rounding an unsigned value to a power of two is the division of naturals with half the power added. -/
theorem roundPow_natCast (n x : Nat) : roundPow n x = ((x + 2 ^ (n - 1)) / 2 ^ n : Nat) := by
  simp [roundPow]

/-- The quotient and the remainder by 48 of a gain code, from any writing of it with a remainder in range. -/
theorem code_ediv_emod {q : Int} {r : Nat} (hr : r < 48) :
    (48 * q + r) / 48 = q ∧ (48 * q + r) % 48 = r := by
  omega

section
variable {g q : Int} {r : Nat}

theorem linearGain_of_le (hg : g ≤ -960) : linearGain g = 0 := if_pos hg

/-- R20 for a code at or above unity: the mantissa is doubled once for each 48. -/
theorem linearGain_of_nonneg (hr : r < 48) (hg : g = 48 * q + r) (hq : 0 ≤ q) :
    linearGain g = mantissa r * 2 ^ q.toNat := by
  obtain ⟨hdiv, hmod⟩ := code_ediv_emod (q := q) hr
  have above : ¬ g ≤ -960 := by omega
  rw [linearGain, if_neg above, hg, hdiv, hmod, if_pos hq, Int.toNat_natCast]

/-- R20 for a code below unity and above the floor: the mantissa is halved once for each 48, rounded once. -/
theorem linearGain_of_neg (hlow : -960 < g) (hr : r < 48) (hg : g = 48 * q + r) (hq : q < 0) :
    linearGain g = (mantissa r + 2 ^ ((-q).toNat - 1)) / 2 ^ (-q).toNat := by
  obtain ⟨hdiv, hmod⟩ := code_ediv_emod (q := q) hr
  rw [linearGain, if_neg (by omega), hg, hdiv, hmod, if_neg (by omega), Int.toNat_natCast, roundPow_natCast,
    Int.toNat_natCast]

end

/-! ### The range of the linear gain -/

/-- Four doublings are reached by the top code alone, whose mantissa is unity. -/
theorem doubled_mantissa_bounds {r k : Nat} (hr : r < 48) (htop : 48 * k + r ≤ 192) :
    4 ≤ mantissa r * 2 ^ k ∧ mantissa r * 2 ^ k ≤ 2 ^ 26 := by
  obtain ⟨hlo, hhi⟩ := mantissa_octave hr
  have lower : mantissa r ≤ mantissa r * 2 ^ k := Nat.le_mul_of_pos_right _ (Nat.two_pow_pos k)
  refine ⟨by omega, ?_⟩
  obtain hk | ⟨rfl, rfl⟩ : k ≤ 3 ∨ k = 4 ∧ r = 0 := by omega
  · calc mantissa r * 2 ^ k ≤ 2 ^ 23 * 2 ^ 3 := Nat.mul_le_mul hhi.le (Nat.pow_le_pow_right two_pos hk)
      _ = 2 ^ 26 := rfl
  · rw [mantissa_zero, ← Nat.pow_add]

/-- At most twenty halvings leave 4 of a mantissa, and rounding does not carry a halved mantissa out of the range. -/
theorem halved_mantissa_bounds {r k : Nat} (hr : r < 48) (hk : k ≤ 20) :
    4 ≤ (mantissa r + 2 ^ (k - 1)) / 2 ^ k ∧ (mantissa r + 2 ^ (k - 1)) / 2 ^ k ≤ 2 ^ 26 := by
  obtain ⟨hlo, hhi⟩ := mantissa_octave hr
  have hpow : 2 ^ k ≤ 2 ^ 20 := Nat.pow_le_pow_right two_pos hk
  have hhalf : 2 ^ (k - 1) ≤ 2 ^ k := Nat.pow_le_pow_right two_pos (Nat.sub_le k 1)
  constructor
  · rw [Nat.le_div_iff_mul_le (Nat.two_pow_pos k)]
    exact Nat.le_add_right_of_le (by omega)
  · refine (Nat.div_le_self _ _).trans ?_
    omega

/-- R20: no code above the floor converts to 0, and none to more than 16 times unity. -/
theorem linearGain_bounds {g q : Int} {r : Nat} (hlow : -959 ≤ g) (htop : g ≤ 192) (hr : r < 48)
    (hg : g = 48 * q + r) : 4 ≤ linearGain g ∧ linearGain g ≤ 2 ^ 26 := by
  by_cases hq : 0 ≤ q
  · rw [linearGain_of_nonneg hr hg hq]
    exact doubled_mantissa_bounds hr (by omega)
  · rw [linearGain_of_neg (by omega) hr hg (by omega)]
    exact halved_mantissa_bounds hr (by omega)

/-- Settles O24: the table by its rows, a code by the sign of its quotient, and the printed values by evaluation. -/
theorem linearGainConverts : Obligations.LinearGainConverts := by
  refine ⟨linearGain_of_le le_rfl, ?mantissas, fun r s => mantissa_strictMono, ?codes, by decide⟩
  case mantissas =>
    intro r
    obtain ⟨below, above⟩ := mantissa_brackets r
    exact ⟨below, above, (mantissa_octave r.isLt).2⟩
  case codes =>
    intro g q r hlow htop hr hg
    have hfloor : -960 < g := by omega
    exact ⟨linearGain_of_nonneg hr hg, linearGain_of_neg hfloor hr hg, linearGain_bounds hlow htop hr hg⟩

end Sys2Proof.Machine
end

section
/-! PROOFS. The equaliser's chains of biquad sections (R72). -/

namespace Sys2Proof.Machine

/-! ### One section -/

/-- R72 with the rounding and the clamp of R1 written out. -/
theorem sectionOutput_eq (c : Section) (s : SectionState) (x : Int) :
    sectionOutput c s x = max (-134217728) (min 134217727
      ((c.b0.toInt * x + c.b1.toInt * s.x1 + c.b2.toInt * s.x2 - c.a1.toInt * s.y1 - c.a2.toInt * s.y2 + 2097152)
        / 4194304)) := rfl

/-! ### A list of sections -/

theorem runSections_nil (ss : List SectionState) (x : Int) : runSections [] ss x = (ss, x) := by
  rw [runSections]

theorem runSections_no_states (c : Section) (cs : List Section) (x : Int) : runSections (c :: cs) [] x = ([], x) := rfl

theorem runSections_cons (c : Section) (cs : List Section) (s : SectionState) (ss : List SectionState) (x : Int) :
    runSections (c :: cs) (s :: ss) x =
      (sectionShift s x (sectionOutput c s x) :: (runSections cs ss (sectionOutput c s x)).1,
        (runSections cs ss (sectionOutput c s x)).2) := rfl

/-- A run gives back as many states as it takes, also where the sections are more than the states. -/
theorem runSections_length (cs : List Section) (ss : List SectionState) (x : Int) :
    (runSections cs ss x).1.length = ss.length := by
  induction cs generalizing ss x with
  | nil => rw [runSections_nil]
  | cons c cs ih =>
    cases ss with
    | nil => rw [runSections_no_states]
    | cons s ss => simp [runSections_cons, ih]

/-! ### The chain of eight states -/

/-- Eight states pass through a chain unchanged: none is cut off and none is filled in. -/
theorem chainOf_toList {l : List SectionState} (h : l.length = 8) : (chainOf l).toList = l := by
  apply List.ext_getElem
  · simp [h]
  · intro i _ hi
    simp [chainOf, hi]

theorem chainState_toList (cs : List Section) (c : Chain) (x : Int) :
    (chainState cs c x).toList = (runSections cs c.toList x).1 :=
  chainOf_toList ((runSections_length cs c.toList x).trans c.length_toList)

/-- Settles O36: the chain keeps the states of its run because a run changes their values and never their number. -/
theorem sectionsFilterInOrder : Obligations.SectionsFilterInOrder := by
  refine ⟨fun cs c x => ⟨rfl, fun _ => chainState_toList cs c x⟩, runSections_nil, ?cons⟩
  case cons =>
    intro c cs s ss x y hy
    rw [← sectionOutput_eq] at hy
    rw [runSections_cons, hy, sectionShift]

end Sys2Proof.Machine
end

section
/-! PROOFS. The judgement of a message at its END cell (R153). -/

namespace Sys2Proof.Machine

/-! ### The END cell -/

section
variable {l : LaneId} {n : Node} (b : Byte)

theorem takeCell_fin_ready (h : (laneOf l n).assembly = .ready) :
    takeCell l ⟨.fin, b⟩ n = judgeMessage l [b] n := by
  rw [takeCell, h]

/-- R152: an END cell closes a record that holds less than the longest message. -/
theorem takeCell_fin_assembling {front : List Byte} (h : (laneOf l n).assembly = .assembling front)
    (hlen : front.length < 132) :
    takeCell l ⟨.fin, b⟩ n = judgeMessage l (front ++ [b]) (setAssembly l .ready n) := by
  rw [takeCell, h]
  exact if_pos hlen

end

/-! ### What the steps test -/

theorem lengthOk_iff (bytes : List Byte) : lengthOk bytes = true ↔
    4 ≤ bytes.length ∧ bytes.length ≤ 132 ∧ bytes.length = (bytes.getD 3 0).toNat + 5 := by
  simp [lengthOk, and_assoc]

/-- The sum of the bytes as naturals, kept modulo 256. -/
theorem byteSum_eq_ofNat (bytes : List Byte) :
    byteSum bytes = BitVec.ofNat 8 (bytes.foldl (fun a b => a + b.toNat) 0) :=
  List.foldl_hom (BitVec.ofNat 8) fun a b => by simp [BitVec.ofNat_add]

theorem byteSum_eq_zero_iff (bytes : List Byte) :
    byteSum bytes = 0 ↔ bytes.foldl (fun a b => a + b.toNat) 0 % 256 = 0 := by
  simp [byteSum_eq_ofNat, ← BitVec.toNat_inj]

theorem addressedHere_iff (n : Node) (m : Message) :
    addressedHere n m = true ↔ m.dest = addressNibble n ∨ m.dest = 0xF := by
  simp [addressedHere]

/-- R150: four bytes or more spell a message, whose payload is what stands between them and the check byte. -/
theorem messageOf_of_four_le {bytes : List Byte} (h : 4 ≤ bytes.length) : messageOf bytes = some {
    dest := (bytes.getD 0 0).extractLsb' 4 4, origin := (bytes.getD 0 0).extractLsb' 0 4
    kind := bytes.getD 1 0, tag := bytes.getD 2 0, payload := (bytes.drop 4).dropLast } := by
  match bytes, h with
  | _ :: _ :: _ :: _ :: _, _ => rfl

/-! ### The outcomes of the destination and the room step -/

section
variable {l : LaneId} {m : Message} {n : Node}

theorem admitMessage_elsewhere (hnode : m.dest ≠ addressNibble n) (hall : m.dest ≠ 0xF) : admitMessage l m n = n := by
  have hdest : ¬ addressedHere n m = true := fun h => ((addressedHere_iff n m).mp h).elim hnode hall
  rw [admitMessage, if_neg hdest]

theorem admitMessage_full (hdest : m.dest = addressNibble n ∨ m.dest = 0xF)
    (hfull : laneCapacity l ≤ (laneOf l n).queue.length) : admitMessage l m n = raise (overrunEvent l) n := by
  rw [admitMessage, if_pos ((addressedHere_iff n m).mpr hdest), if_pos hfull]

end

theorem raise_overrunEvent (l : LaneId) (n : Node) :
    raise (overrunEvent l) n = { n with events := n.events ||| (if l = .setting then 0x1#13 else 0x2#13) } := by
  cases l <;> rfl

/-! ### The outcomes of the judgement -/

section
variable (l : LaneId) {bytes : List Byte} (n : Node)

theorem judgeMessage_malformed (hlen : ¬ lengthOk bytes = true) : judgeMessage l bytes n = raise .malformed n :=
  if_neg hlen

theorem judgeMessage_checkFail (hlen : lengthOk bytes = true) (hsum : byteSum bytes ≠ 0) :
    judgeMessage l bytes n = raise .checkFail n := by
  rw [judgeMessage, if_pos hlen, if_neg hsum]

theorem judgeMessage_admits {m : Message} (hlen : lengthOk bytes = true) (hsum : byteSum bytes = 0)
    (hm : messageOf bytes = some m) : judgeMessage l bytes n = admitMessage l m n := by
  rw [judgeMessage, if_pos hlen, if_pos hsum, hm]

end

/-- Settles O38: the END cell hands the record to the judgement, and each outcome is the first step that fails. -/
theorem messageIsJudgedStepByStep : Obligations.MessageIsJudgedStepByStep := by
  intro l bytes n
  refine ⟨?endCell, ?badLength, fun hfour hmax hlen => ?goodLength⟩
  case endCell =>
    rintro front b rfl hmax
    constructor
    · rintro ⟨hready, rfl⟩
      exact takeCell_fin_ready b hready
    · intro hassembling
      exact takeCell_fin_assembling b hassembling (by simpa using hmax)
  case badLength =>
    intro hbad _
    refine judgeMessage_malformed l n fun hok => ?_
    obtain ⟨hfour, _, hlen⟩ := (lengthOk_iff bytes).mp hok
    omega
  case goodLength =>
    have hok : lengthOk bytes = true := (lengthOk_iff bytes).mpr ⟨hfour, hmax, hlen⟩
    refine ⟨fun hsum => judgeMessage_checkFail l n hok (mt (byteSum_eq_zero_iff bytes).mp hsum), ?_⟩
    intro hsum m hm
    have hadmit : judgeMessage l bytes n = admitMessage l m n :=
      judgeMessage_admits l n hok ((byteSum_eq_zero_iff bytes).mpr hsum) (hm ▸ messageOf_of_four_le hfour)
    rw [hadmit]
    refine ⟨admitMessage_elsewhere, fun hdest => ⟨admit_room l m n hdest, fun hfull => ?_⟩⟩
    rw [admitMessage_full hdest hfull, raise_overrunEvent]

end Sys2Proof.Machine
end

section
/-! PROOFS. What each command answers, and which fields of the node each operation of a frame period, of a boundary
and of the EQ engine leaves alone. -/

namespace Sys2Proof.Machine

/-! ### What a command answers -/

theorem exec_messageCommand (k : Kind) (h : MsgHeader) (payload : List Byte) (n : Node) (q : List Instr) :
    exec (messageCommand k h payload) ⟨n, q⟩ = .next ⟨deliver h k payload n, q⟩ := by
  cases k <;> rfl

theorem exec_blockBoundary (n : Node) (q : List Instr) :
    exec .blockBoundary ⟨n, q⟩ = .next ⟨completeBoundary n, q⟩ := rfl

/-- One work alone is left of a boundary: completing it does that work. -/
theorem completeBoundary_work {n : Node} {w : Work} (hs : inService n.control.node = true) (hb : n.boundary = [w]) :
    completeBoundary n = doWork w { n with boundary := [], choice := n.choice + 1 } := by
  rw [completeBoundary_single n w hb, takeWork_inService w { n with choice := n.choice + 1 } hs]
  simp [hb]

/-- A work that stands, may be taken and brings its event about is done. -/
theorem takeEvent_happens {n : Node} {w : Work} {b : Bool} (hs : inService n.control.node = true)
    (hw : w ∈ n.boundary) (hm : mayTake n w = true) (hb : b = true) :
    takeEvent w b n = doWork w { n with boundary := n.boundary.erase w } := by
  have hdue : workDue w n = true := by simp [workDue, hs, hw, hm]
  rw [takeEvent, hdue, hb, Bool.and_self, if_pos rfl, takeWork_inService w n hs]

/-! ### An entry of a vector -/

section
variable {α : Type} {k : Nat} (i j : Fin k) (v : Vector α k)

theorem modifyVec_at (f : α → α) : (modifyVec i f v)[j] = if j = i then f v[j] else v[j] := by
  simp [Fin.ext_iff]

theorem putVec_at (a : α) : (putVec i a v)[j] = if j = i then a else v[j] := by
  simp [Fin.ext_iff]

theorem mapVec_at {β : Type} (f : α → β) : (mapVec f v)[j] = f v[j] := by simp

theorem ofFn_at (f : Fin k → α) : (Vector.ofFn f)[j] = f j := by simp

theorem replicate_at (a : α) : (Vector.replicate k a)[j] = a := by simp

end

/-! ### The EQ engine touches its own state and the flags -/

/-- Every field but the EQ state and the event flags stands. -/
structure OnlyEq (n m : Node) : Prop extends SameOuter n m where
  tables : m.tables = n.tables
  live : m.live = n.live
  detectors : m.detectors = n.detectors
  levels : m.levels = n.levels
  tracker : m.tracker = n.tracker
  ramps : m.ramps = n.ramps
  guards : m.guards = n.guards
  replies : m.replies = n.replies

theorem OnlyEq.refl (n : Node) : OnlyEq n n := ⟨.refl n, rfl, rfl, rfl, rfl, rfl, rfl, rfl, rfl⟩

theorem OnlyEq.trans {a b c : Node} (h : OnlyEq a b) (g : OnlyEq b c) : OnlyEq a c :=
  ⟨h.toSameOuter.trans g.toSameOuter, g.tables.trans h.tables, g.live.trans h.live, g.detectors.trans h.detectors,
   g.levels.trans h.levels, g.tracker.trans h.tracker, g.ramps.trans h.ramps, g.guards.trans h.guards,
   g.replies.trans h.replies⟩

theorem raise_onlyEq (e : Event) (n : Node) : OnlyEq n (raise e n) :=
  ⟨raise_sameOuter e n, by simp, by simp, by simp, by simp, by simp, by simp, by simp, by simp⟩

theorem modifyRecord_onlyEq (k : Fin 24) (f : EqRecord → EqRecord) (n : Node) : OnlyEq n (modifyRecord k f n) :=
  ⟨modifyRecord_sameOuter k f n, by simp, by simp, by simp, by simp, by simp, by simp, by simp, by simp⟩

theorem startFade_onlyEq (k : Fin 24) (i : Fin 8) (t : SetRef) (n : Node) : OnlyEq n (startFade k i t n) := by
  refine ⟨startFade_sameOuter k i t n, ?_, ?_, ?_, ?_, ?_, ?_, ?_, ?_⟩ <;> simp [startFade]

theorem handOver_onlyEq (i : Fin 8) (n : Node) : OnlyEq n (handOver i n) := by
  refine ⟨handOver_sameOuter i n, ?_, ?_, ?_, ?_, ?_, ?_, ?_, ?_⟩ <;> unfold handOver <;> repeat' split
  all_goals simp [startFade]

theorem releaseSlot_onlyEq (i : Fin 8) (n : Node) : OnlyEq n (releaseSlot i n) :=
  have hput : OnlyEq n (putSlot i none n) := by
    refine ⟨⟨?_, ?_, ?_, ?_, ?_, ?_, ?_⟩, ?_, ?_, ?_, ?_, ?_, ?_, ?_, ?_⟩ <;> simp
  hput.trans (handOver_onlyEq i _)

theorem requestByState_onlyEq (k : Fin 24) (d : SetRef) (n : Node) : OnlyEq n (requestByState k d n) := by
  refine ⟨requestByState_sameOuter k d n, ?_, ?_, ?_, ?_, ?_, ?_, ?_, ?_⟩ <;> unfold requestByState <;> repeat' split
  all_goals simp [startFade, joinQueue, leaveQueue]

theorem request_onlyEq (k : Fin 24) (n : Node) : OnlyEq n (request k n) := by
  unfold request
  split
  · exact requestByState_onlyEq _ _ _
  · exact modifyRecord_onlyEq _ _ _

theorem requestAll_onlyEq (ks : List (Fin 24)) (n : Node) : OnlyEq n (requestAll ks n) :=
  requestAll_keeps (OnlyEq n) (fun k m h => h.trans (request_onlyEq k m)) ks n (.refl n)

theorem disableEq_onlyEq (k : Fin 24) (n : Node) : OnlyEq n (disableEq k n) := by
  unfold disableEq
  repeat' split
  · exact modifyRecord_onlyEq _ _ _
  · refine ⟨⟨?_, ?_, ?_, ?_, ?_, ?_, ?_⟩, ?_, ?_, ?_, ?_, ?_, ?_, ?_, ?_⟩ <;> simp
  · exact (modifyRecord_onlyEq _ _ _).trans (releaseSlot_onlyEq _ _)
  · exact modifyRecord_onlyEq _ _ _

theorem zeroShelfWhenOff_onlyEq (k : Fin 24) (n : Node) : OnlyEq n (zeroShelfWhenOff k n) := by
  unfold zeroShelfWhenOff
  split
  · exact modifyRecord_onlyEq _ _ _
  · exact .refl n

theorem enableSpeaker_onlyEq (k : Fin 24) (n : Node) : OnlyEq n (enableSpeaker k n) := by
  refine ⟨⟨?_, ?_, ?_, ?_, ?_, ?_, ?_⟩, ?_, ?_, ?_, ?_, ?_, ?_, ?_, ?_⟩ <;> simp [enableSpeaker, requestAtOnce]

theorem speakerRequest_onlyEq (mask : Nat) (k : Fin 24) (old new : Speaker) (n : Node) :
    OnlyEq n (speakerRequest mask k old new n) := by
  unfold speakerRequest
  repeat' split
  · exact enableSpeaker_onlyEq k n
  · exact request_onlyEq k n
  · exact .refl n

theorem completeFade_onlyEq (i : Fin 8) (n : Node) : OnlyEq n (completeFade i n) := by
  unfold completeFade
  repeat' split
  · exact (modifyRecord_onlyEq _ _ _).trans (startFade_onlyEq _ _ _ _)
  · exact (modifyRecord_onlyEq _ _ _).trans (releaseSlot_onlyEq _ _)
  all_goals exact .refl n

/-- The evaluation of the band touches the tracker beside the EQ state. -/
theorem evaluateBand_onlyEq (n : Node) : ∃ t : Tracker, OnlyEq { n with tracker := t } (evaluateBand n) := by
  unfold evaluateBand
  dsimp only
  split
  · exact ⟨n.tracker, .refl n⟩
  · exact ⟨_, (raise_onlyEq _ _).trans (requestAll_onlyEq _ _)⟩

end Sys2Proof.Machine
end

section
/-! PROOFS. The fields that each operation of a frame period leaves alone. -/

namespace Sys2Proof.Machine

@[simp] theorem judgeMessage_fields (l : LaneId) (bytes : List Byte) (n : Node) :
    (judgeMessage l bytes n).control = n.control ∧ (judgeMessage l bytes n).link = n.link ∧
    (judgeMessage l bytes n).tables = n.tables ∧ (judgeMessage l bytes n).live = n.live ∧
    (judgeMessage l bytes n).detectors = n.detectors ∧ (judgeMessage l bytes n).levels = n.levels ∧
    (judgeMessage l bytes n).tracker = n.tracker ∧ (judgeMessage l bytes n).eq = n.eq ∧
    (judgeMessage l bytes n).ramps = n.ramps ∧ (judgeMessage l bytes n).guards = n.guards ∧
    (judgeMessage l bytes n).replies = n.replies ∧ (judgeMessage l bytes n).merger = n.merger ∧
    (judgeMessage l bytes n).boundary = n.boundary ∧ (judgeMessage l bytes n).choice = n.choice := by
  unfold judgeMessage admitMessage
  repeat' split
  all_goals simp

@[simp] theorem takeCell_fields (l : LaneId) (c : Cell) (n : Node) :
    (takeCell l c n).control = n.control ∧ (takeCell l c n).link = n.link ∧ (takeCell l c n).tables = n.tables ∧
    (takeCell l c n).live = n.live ∧ (takeCell l c n).detectors = n.detectors ∧ (takeCell l c n).levels = n.levels ∧
    (takeCell l c n).tracker = n.tracker ∧ (takeCell l c n).eq = n.eq ∧ (takeCell l c n).ramps = n.ramps ∧
    (takeCell l c n).guards = n.guards ∧ (takeCell l c n).replies = n.replies ∧ (takeCell l c n).merger = n.merger ∧
    (takeCell l c n).boundary = n.boundary ∧ (takeCell l c n).choice = n.choice := by
  unfold takeCell
  repeat' split
  all_goals simp

@[simp] theorem takeCells_fields (a b : Cell) (n : Node) :
    (takeCells a b n).control = n.control ∧ (takeCells a b n).link = n.link ∧ (takeCells a b n).tables = n.tables ∧
    (takeCells a b n).live = n.live ∧ (takeCells a b n).detectors = n.detectors ∧
    (takeCells a b n).levels = n.levels ∧ (takeCells a b n).tracker = n.tracker ∧ (takeCells a b n).eq = n.eq ∧
    (takeCells a b n).ramps = n.ramps ∧ (takeCells a b n).guards = n.guards ∧ (takeCells a b n).replies = n.replies ∧
    (takeCells a b n).merger = n.merger ∧ (takeCells a b n).boundary = n.boundary ∧
    (takeCells a b n).choice = n.choice := by
  unfold takeCells
  split <;> simp

@[simp] theorem takeFrameCells_fields (f : Option DownFrame) (n : Node) :
    (takeFrameCells f n).control = n.control ∧ (takeFrameCells f n).link = n.link ∧
    (takeFrameCells f n).tables = n.tables ∧ (takeFrameCells f n).live = n.live ∧
    (takeFrameCells f n).detectors = n.detectors ∧ (takeFrameCells f n).levels = n.levels ∧
    (takeFrameCells f n).tracker = n.tracker ∧ (takeFrameCells f n).eq = n.eq ∧
    (takeFrameCells f n).ramps = n.ramps ∧ (takeFrameCells f n).guards = n.guards ∧
    (takeFrameCells f n).replies = n.replies ∧ (takeFrameCells f n).merger = n.merger ∧
    (takeFrameCells f n).boundary = n.boundary ∧ (takeFrameCells f n).choice = n.choice := by
  unfold takeFrameCells
  split <;> simp

@[simp] theorem takeSources_fields (slots : Vector Sample 32) (n : Node) :
    (takeSources slots n).control = n.control ∧ (takeSources slots n).link = n.link ∧
    (takeSources slots n).tables = n.tables ∧ (takeSources slots n).live = n.live ∧
    (takeSources slots n).levels = n.levels ∧ (takeSources slots n).tracker = n.tracker ∧
    (takeSources slots n).eq = n.eq ∧ (takeSources slots n).ramps = n.ramps ∧
    (takeSources slots n).guards = n.guards ∧ (takeSources slots n).settingLane = n.settingLane ∧
    (takeSources slots n).liveLane = n.liveLane ∧ (takeSources slots n).replies = n.replies ∧
    (takeSources slots n).merger = n.merger ∧ (takeSources slots n).events = n.events ∧
    (takeSources slots n).boundary = n.boundary ∧ (takeSources slots n).choice = n.choice := by
  unfold takeSources
  split <;> simp

@[simp] theorem audioFrame_fields (slots : Vector Sample 32) (n : Node) :
    ((audioFrame slots n).1).control = n.control ∧ ((audioFrame slots n).1).link = n.link ∧
    ((audioFrame slots n).1).tables = n.tables ∧ ((audioFrame slots n).1).live = n.live ∧
    ((audioFrame slots n).1).detectors = n.detectors ∧ ((audioFrame slots n).1).tracker = n.tracker ∧
    ((audioFrame slots n).1).ramps = n.ramps ∧ ((audioFrame slots n).1).guards = n.guards ∧
    ((audioFrame slots n).1).settingLane = n.settingLane ∧ ((audioFrame slots n).1).liveLane = n.liveLane ∧
    ((audioFrame slots n).1).replies = n.replies ∧ ((audioFrame slots n).1).merger = n.merger ∧
    ((audioFrame slots n).1).events = n.events ∧ ((audioFrame slots n).1).boundary = n.boundary ∧
    ((audioFrame slots n).1).choice = n.choice := by
  unfold audioFrame
  split <;> simp

@[simp] theorem formFrame_fields (f : Option DownFrame) (n : Node) :
    (formFrame f n).control = n.control ∧ (formFrame f n).tables = n.tables ∧ (formFrame f n).live = n.live ∧
    (formFrame f n).detectors = n.detectors ∧ (formFrame f n).tracker = n.tracker ∧ (formFrame f n).ramps = n.ramps ∧
    (formFrame f n).guards = n.guards ∧ (formFrame f n).settingLane = n.settingLane ∧
    (formFrame f n).liveLane = n.liveLane ∧ (formFrame f n).replies = n.replies ∧ (formFrame f n).merger = n.merger ∧
    (formFrame f n).events = n.events ∧ (formFrame f n).boundary = n.boundary ∧
    (formFrame f n).choice = n.choice := by
  unfold formFrame
  simp

@[simp] theorem openBoundary_fields  (n : Node) :
    (openBoundary n).control = n.control ∧ (openBoundary n).link = n.link ∧ (openBoundary n).tables = n.tables ∧
    (openBoundary n).live = n.live ∧ (openBoundary n).detectors = n.detectors ∧
    (openBoundary n).tracker = n.tracker ∧ (openBoundary n).eq = n.eq ∧ (openBoundary n).ramps = n.ramps ∧
    (openBoundary n).guards = n.guards ∧ (openBoundary n).settingLane = n.settingLane ∧
    (openBoundary n).liveLane = n.liveLane ∧ (openBoundary n).replies = n.replies ∧
    (openBoundary n).merger = n.merger ∧ (openBoundary n).events = n.events ∧ (openBoundary n).choice = n.choice := by
  unfold openBoundary
  split <;> simp

@[simp] theorem countFrame_fields  (n : Node) :
    (countFrame n).control = n.control ∧ (countFrame n).tables = n.tables ∧ (countFrame n).live = n.live ∧
    (countFrame n).detectors = n.detectors ∧ (countFrame n).tracker = n.tracker ∧ (countFrame n).eq = n.eq ∧
    (countFrame n).ramps = n.ramps ∧ (countFrame n).guards = n.guards ∧ (countFrame n).settingLane = n.settingLane ∧
    (countFrame n).liveLane = n.liveLane ∧ (countFrame n).replies = n.replies ∧ (countFrame n).merger = n.merger ∧
    (countFrame n).events = n.events ∧ (countFrame n).choice = n.choice := by
  unfold countFrame
  split <;> simp

@[simp] theorem sendUpstream_fields  (n : Node) :
    (sendUpstream n).control = n.control ∧ (sendUpstream n).tables = n.tables ∧ (sendUpstream n).live = n.live ∧
    (sendUpstream n).detectors = n.detectors ∧ (sendUpstream n).levels = n.levels ∧
    (sendUpstream n).tracker = n.tracker ∧ (sendUpstream n).eq = n.eq ∧ (sendUpstream n).ramps = n.ramps ∧
    (sendUpstream n).guards = n.guards ∧ (sendUpstream n).settingLane = n.settingLane ∧
    (sendUpstream n).liveLane = n.liveLane ∧ (sendUpstream n).events = n.events ∧
    (sendUpstream n).boundary = n.boundary ∧ (sendUpstream n).choice = n.choice := by
  unfold sendUpstream
  split <;> simp [passiveUpstream, ownUpstream]

@[simp] theorem enterFault_fields  (n : Node) :
    (enterFault n).tables = n.tables ∧ (enterFault n).live = n.live ∧ (enterFault n).detectors = n.detectors ∧
    (enterFault n).tracker = n.tracker ∧ (enterFault n).ramps = n.ramps ∧ (enterFault n).guards = n.guards ∧
    (enterFault n).settingLane = n.settingLane ∧ (enterFault n).liveLane = n.liveLane ∧
    (enterFault n).replies = n.replies ∧ (enterFault n).merger = n.merger ∧ (enterFault n).events = n.events ∧
    (enterFault n).boundary = n.boundary ∧ (enterFault n).choice = n.choice := by
  simp [enterFault]

@[simp] theorem hopCheck_fields (hop : BitVec 3) (n : Node) :
    (hopCheck hop n).tables = n.tables ∧ (hopCheck hop n).live = n.live ∧ (hopCheck hop n).detectors = n.detectors ∧
    (hopCheck hop n).tracker = n.tracker ∧ (hopCheck hop n).ramps = n.ramps ∧ (hopCheck hop n).guards = n.guards ∧
    (hopCheck hop n).settingLane = n.settingLane ∧ (hopCheck hop n).liveLane = n.liveLane ∧
    (hopCheck hop n).replies = n.replies ∧ (hopCheck hop n).merger = n.merger ∧ (hopCheck hop n).events = n.events ∧
    (hopCheck hop n).boundary = n.boundary ∧ (hopCheck hop n).choice = n.choice := by
  unfold hopCheck
  repeat' split
  all_goals simp

@[simp] theorem moveTo_fields (s : NodeState) (n : Node) :
    (moveTo s n).link = n.link ∧ (moveTo s n).tables = n.tables ∧ (moveTo s n).live = n.live ∧
    (moveTo s n).detectors = n.detectors ∧ (moveTo s n).tracker = n.tracker ∧ (moveTo s n).ramps = n.ramps ∧
    (moveTo s n).guards = n.guards ∧ (moveTo s n).settingLane = n.settingLane ∧ (moveTo s n).liveLane = n.liveLane ∧
    (moveTo s n).replies = n.replies ∧ (moveTo s n).merger = n.merger ∧ (moveTo s n).events = n.events ∧
    (moveTo s n).boundary = n.boundary ∧ (moveTo s n).choice = n.choice := by
  unfold moveTo
  split <;> simp

@[simp] theorem moveByCode_fields (c : Code) (n : Node) :
    (moveByCode c n).link = n.link ∧ (moveByCode c n).tables = n.tables ∧ (moveByCode c n).live = n.live ∧
    (moveByCode c n).detectors = n.detectors ∧ (moveByCode c n).tracker = n.tracker ∧
    (moveByCode c n).ramps = n.ramps ∧ (moveByCode c n).guards = n.guards ∧
    (moveByCode c n).settingLane = n.settingLane ∧ (moveByCode c n).liveLane = n.liveLane ∧
    (moveByCode c n).replies = n.replies ∧ (moveByCode c n).merger = n.merger ∧ (moveByCode c n).events = n.events ∧
    (moveByCode c n).boundary = n.boundary ∧ (moveByCode c n).choice = n.choice := by
  unfold moveByCode
  split <;> simp

end Sys2Proof.Machine
end

section
/-! PROOFS. The queues and the pass-through store stay within their room (R154, R167). -/

namespace Sys2Proof.Machine

/-! ### The command code -/

/-- R132: a code is not taken or changes nothing, becomes the candidate, or is accepted. -/
theorem takeCode_cases (c : Option Code) (hop : BitVec 3) (n : Node) :
    ((n.control.node = .detached ∨ ∃ d, c = some d ∧ n.link.candidate = some d ∧ n.link.accepted = d) ∧
      takeCode c hop n = n) ∨
    (n.control.node ≠ .detached ∧ takeCode c hop n = setCandidate c n) ∨
    (n.control.node ≠ .detached ∧ ∃ d, c = some d ∧ n.link.candidate = some d ∧ n.link.accepted ≠ d ∧
      takeCode c hop n = acceptCode d hop n) := by
  unfold takeCode
  by_cases hd : n.control.node = .detached
  · simp [codesTaken, hd]
  · rw [if_pos (by simp [codesTaken, hd])]
    cases c with
    | none => exact .inr (.inl ⟨hd, rfl⟩)
    | some d =>
      dsimp only
      split
      · split
        · exact .inl ⟨.inr ⟨d, rfl, ‹_›, ‹_›⟩, rfl⟩
        · exact .inr (.inr ⟨hd, d, rfl, ‹_›, ‹_›, rfl⟩)
      · exact .inr (.inl ⟨hd, rfl⟩)

/-- An accepted code is CLEAR, which restores the node, or one that moves the working states. -/
theorem acceptCode_cases (d : Code) (hop : BitVec 3) (n : Node) :
    (d = .clear ∧ acceptCode d hop n = clearNode hop (setAccepted .clear n)) ∨
    (d ≠ .clear ∧ acceptCode d hop n = moveByCode d (setAccepted d n)) := by
  cases d <;> simp [acceptCode]

/-- A property kept by each of the three outcomes of a code is kept by the taking of the code. -/
theorem takeCode_keeps (P : Node → Prop) (c : Option Code) (hop : BitVec 3) (n : Node) (h : P n)
    (hcandidate : P (setCandidate c n)) (hclear : P (clearNode hop (setAccepted .clear n)))
    (hmove : ∀ d, d ≠ .clear → P (moveByCode d (setAccepted d n))) : P (takeCode c hop n) := by
  obtain ⟨-, e⟩ | ⟨-, e⟩ | ⟨-, d, -, -, -, e⟩ := takeCode_cases c hop n
  · rwa [e]
  · rwa [e]
  · rw [e]
    obtain ⟨-, e⟩ | ⟨hd, e⟩ := acceptCode_cases d hop n
    · rwa [e]
    · rw [e]; exact hmove d hd

/-! ### Replies -/

theorem unsignedBytes_length (w x : Nat) : (unsignedBytes w x).length = w := by
  induction w with
  | zero => rfl
  | succ w ih => simp [unsignedBytes, ih]

theorem signedBytes_length (w : Nat) (x : Int) : (signedBytes w x).length = w := unsignedBytes_length _ _

theorem writeSpeaker_replies (mask : Nat) (k : Fin 24) (new : Speaker) (n : Node) :
    (writeSpeaker mask k new n).replies = n.replies := by
  unfold writeSpeaker
  dsimp only
  rw [(speakerRequest_onlyEq _ _ _ _ _).replies]
  split <;> simp [disableSpeaker, (disableEq_onlyEq _ _).replies, (zeroShelfWhenOff_onlyEq _ _).replies]

theorem writeElement_replies (t : TableId) (mask idx : Nat) (vs : List (Nat × GroupValue)) (n : Node) :
    (writeElement t mask idx vs n).replies = n.replies := by
  unfold writeElement
  split <;> refine writeAt_keeps (fun m => m.replies = n.replies) _ _ _ _ _ _ _ _ (by simp [refuse]) ?_ <;>
    intro i r _ _
  case h_2 => exact writeSpeaker_replies mask i r n
  all_goals simp [writeZone]

/-- R159: the elements of a TABLE_READ reply fit in 121 bytes beside its six. -/
theorem tableReadReply_length (n : Node) (id first count hi lo : Byte) :
    (tableReadReply n id first count hi lo).length ≤ 127 := by
  unfold tableReadReply
  split
  · simp
  · rename_i t _
    split
    · obtain ⟨es, hr, -, hroom, -⟩ := readElements_spec n t (unsignedOf [hi, lo]) count.toNat first.toNat 121
      simp only [hr]
      simp only [List.cons_append, List.nil_append, List.length_cons]
      omega
    · simp

/-- R172: every view of a STATUS_READ fits in a payload. -/
theorem carryStatusRead_replies (m : Message) (n : Node) : (carryStatusRead m n).replies = n.replies ∨
    ∃ p : List Byte, p.length ≤ 127 ∧ (carryStatusRead m n).replies = (postReply m p n).replies := by
  unfold carryStatusRead
  split
  · right
    dsimp only
    split
    · refine ⟨_, ?_, by simp; rfl⟩
      simp [eventBytes, nodeRecord, unsignedBytes_length]
    · split
      · split
        · refine ⟨_, ?_, by simp; rfl⟩
          simp [eventBytes, zoneRecord, unsignedBytes_length, signedBytes_length]
        · exact ⟨_, by simp [eventBytes, unsignedBytes_length], rfl⟩
      · split
        · split
          · refine ⟨_, ?_, by simp; rfl⟩
            simp [eventBytes, speakerRecord, unsignedBytes_length, signedBytes_length]
          · exact ⟨_, by simp [eventBytes, unsignedBytes_length], rfl⟩
        · exact ⟨_, by simp [eventBytes, unsignedBytes_length], rfl⟩
  · exact .inl rfl

theorem evaluateBand_replies (n : Node) : (evaluateBand n).replies = n.replies := by
  obtain ⟨_, h⟩ := evaluateBand_onlyEq n
  exact h.replies

/-- R165: a message that is carried out posts no reply, or is a read that posts one, of at most 127 payload bytes. -/
theorem carryOut_replies (k : Kind) (m : Message) (n : Node) : (carryOut k m n).replies = n.replies ∨
    isRead k = true ∧ ∃ p : List Byte, p.length ≤ 127 ∧ (carryOut k m n).replies = (postReply m p n).replies := by
  cases k
  case tableWrite =>
    left
    simp only [carryOut, carryTableWrite]
    repeat' split
    · exact writeElements_keeps (fun x => x.replies = n.replies) _ _
        (fun idx vs x h => (writeElement_replies _ _ _ _ x).trans h) (fun x h => by simpa [refuse] using h) _ _ _ _ rfl
    all_goals simp [refuse]
  case tableRead =>
    simp only [carryOut, carryTableRead]
    split
    · exact .inr ⟨rfl, _, tableReadReply_length _ _ _ _ _ _, rfl⟩
    · exact .inl rfl
  case eqSelect =>
    left
    simp only [carryOut, carryEqSelect]
    repeat' split
    · exact selectSpeakers_keeps (fun x => x.replies = n.replies) _ _
        (fun k x h => by simp [selectSpeaker, (request_onlyEq _ _).replies, h]) _ _ rfl
    all_goals simp [refuse]
  case identRead => exact .inr ⟨rfl, identity, by decide, rfl⟩
  case statusRead => exact (carryStatusRead_replies m n).imp id fun h => ⟨rfl, h⟩
  case speed =>
    left
    simp only [carryOut, carrySpeed]
    repeat' split
    · rw [validReport, evaluateBand_replies]
    all_goals simp [refuse, invalidReport]
  all_goals
    left
    simp only [carryOut, carryLevel, carryProgramTrim, carryBalanceFade, carryMute, carryCabin, carryPresence,
      carryRampControl]
    repeat' split
  all_goals simp [refuse]

/-! ### R154: the three queues -/

theorem QueuesFit.congr {n m : Node} (h : QueuesFit n) (hs : m.settingLane.queue = n.settingLane.queue)
    (hl : m.liveLane.queue = n.liveLane.queue) (hr : m.replies.length ≤ n.replies.length) : QueuesFit m :=
  ⟨hs ▸ h.setting, hl ▸ h.live, hr.trans h.replies⟩

/-- R167: sending takes a reply from the queue or leaves the queue as it stands. -/
theorem mergerSend_replies (replies : List Message) (m : Merger) :
    ((mergerSend replies m).replies).Sublist replies := by
  unfold mergerSend sendReplyByte sendEntry
  repeat' split
  all_goals simp

theorem sendUpstream_replies (n : Node) : ((sendUpstream n).replies).Sublist n.replies := by
  unfold sendUpstream
  split
  · simp [passiveUpstream]
  · exact mergerSend_replies _ _

theorem QueuesFit.raise {n : Node} (h : QueuesFit n) (e : Event) : QueuesFit (raise e n) :=
  h.congr (by simp) (by simp) (by simp)

/-- R154: a lane with room holds one message more. -/
theorem QueuesFit.enqueue {l : LaneId} {n : Node} (h : QueuesFit n) (m : Message)
    (hroom : (laneOf l n).queue.length < laneCapacity l) : QueuesFit (enqueue l m n) := by
  cases l with
  | setting => exact ⟨by simpa [Machine.enqueue, withLane, laneOf, laneCapacity] using hroom, h.live, h.replies⟩
  | live => exact ⟨h.setting, by simpa [Machine.enqueue, withLane, laneOf, laneCapacity] using hroom, h.replies⟩

theorem QueuesFit.judgeMessage {n : Node} (h : QueuesFit n) (l : LaneId) (bytes : List Byte) :
    QueuesFit (judgeMessage l bytes n) := by
  unfold Machine.judgeMessage
  split
  · split
    · split
      · unfold admitMessage
        split
        · split
          · exact h.raise _
          · exact h.enqueue _ (by omega)
        · exact h
      · exact h
    · exact h.raise _
  · exact h.raise _

theorem QueuesFit.setAssembly {n : Node} (h : QueuesFit n) (l : LaneId) (a : Assembly) :
    QueuesFit (setAssembly l a n) := by
  cases l
  · exact ⟨h.setting, h.live, h.replies⟩
  · exact ⟨h.setting, h.live, h.replies⟩

theorem QueuesFit.takeCell {n : Node} (h : QueuesFit n) (l : LaneId) (c : Cell) : QueuesFit (takeCell l c n) := by
  unfold Machine.takeCell
  repeat' split
  all_goals
    first
    | exact h
    | exact h.setAssembly _ _
    | exact (h.setAssembly _ _).raise _
    | exact h.judgeMessage _ _
    | exact (h.setAssembly _ _).judgeMessage _ _

/-- R157: a read is taken where the reply queue has room for its reply, so that carrying it out fits. -/
theorem QueuesFit.takeLane {n : Node} (h : QueuesFit n) (l : LaneId) : QueuesFit (takeLane l n) := by
  have hpop : QueuesFit (popLane l n) := by
    cases l
    · exact ⟨(List.length_tail ▸ Nat.sub_le _ _).trans h.setting, h.live, h.replies⟩
    · exact ⟨h.setting, (List.length_tail ▸ Nat.sub_le _ _).trans h.live, h.replies⟩
  unfold Machine.takeLane perform
  split
  · split
    · exact h
    · rename_i m _ _
      split
      · exact h
      · rename_i hstall
        split
        · rename_i k hk
          have hsame := carryOut_sameOuter k m (popLane l n)
          refine ⟨hsame.settingLane ▸ hpop.setting, hsame.liveLane ▸ hpop.live, ?_⟩
          obtain hr | ⟨hread, p, -, hr⟩ := carryOut_replies k m (popLane l n)
          · exact hr ▸ hpop.replies
          · have hroom : n.replies.length < replyCapacity := by simpa [stalled, hk, hread] using hstall
            rw [hr]
            simpa [postReply, replyCapacity] using hroom
        · exact hpop.raise _
  · exact h

/-- A work that is no lane's take leaves the lanes, the replies and the merger alone. -/
theorem doWork_lanes {w : Work} (n : Node) (hl : w ≠ .liveTake) (hs : w ≠ .settingTake) :
    (doWork w n).settingLane = n.settingLane ∧ (doWork w n).liveLane = n.liveLane ∧
    (doWork w n).replies = n.replies ∧ (doWork w n).merger = n.merger := by
  cases w with
  | liveTake => exact absurd rfl hl
  | settingTake => exact absurd rfl hs
  | judge p => simp [doWork]
  | track => simp [doWork, trackStep]
  | guardStep => simp [doWork, Machine.guardStep]
  | ramp u => simp [doWork, rampStep]
  | complete k =>
    have h := completeFade_onlyEq k n
    exact ⟨h.settingLane, h.liveLane, h.replies, h.merger⟩
  | shelf => simp only [doWork, formShelf]; split <;> simp
  | compose => simp only [doWork, composeLevels]; split <;> simp
  | starting => simp only [doWork, countStarting]; split <;> simp

theorem QueuesFit.doWork {n : Node} (h : QueuesFit n) (w : Work) : QueuesFit (doWork w n) := by
  by_cases hl : w = .liveTake
  · subst hl; exact h.takeLane .live
  by_cases hs : w = .settingTake
  · subst hs; exact h.takeLane .setting
  obtain ⟨hset, hlive, hr, -⟩ := doWork_lanes n hl hs
  exact h.congr (by rw [hset]) (by rw [hlive]) (by rw [hr])

theorem takeCode_queuesFit {n : Node} (c : Option Code) (hop : BitVec 3) (h : QueuesFit n) :
    QueuesFit (takeCode c hop n) := by
  refine takeCode_keeps QueuesFit c hop n h (h.congr (by simp) (by simp) (by simp)) ?_
    fun d _ => h.congr (by simp) (by simp) (by simp)
  exact ⟨by simp [clearNode, clearLane], by simp [clearNode, clearLane], by simp [clearNode]⟩

theorem queuesFit_kept : Kept QueuesFit where
  reset _ _ := by constructor <;> simp [assertReset]
  release _ h := h.congr rfl rfl le_rfl
  headRun _ _ _ h _ _ := h.congr (by simp) (by simp) (by simp)
  firstLock _ _ _ h _ _ := h.congr rfl rfl le_rfl
  relock _ _ _ h _ _ := h.congr (by simp [relock]) (by simp [relock]) (by simp [relock])
  headLoss _ h _ _ := h.congr rfl rfl le_rfl
  headCount _ _ h _ _ := h.congr (by simp) (by simp) (by simp)
  upstream n h _ := h.congr (by simp) (by simp) (sendUpstream_replies n).length_le
  delays _ h _ := h.congr (by simp) (by simp) (by simp)
  code _ c hop h := takeCode_queuesFit c hop h
  hop _ _ h := h.congr (by simp) (by simp) (by simp)
  noHop _ h := h.congr (by simp) (by simp) (by simp)
  cells _ a b h := by
    unfold takeCells
    split
    · exact (h.takeCell .setting a).takeCell .live b
    · exact h
  sources _ _ h := h.congr (by simp) (by simp) (by simp)
  form _ _ h _ := h.congr (by simp) (by simp) (by simp)
  count _ h _ _ := h.congr (by simp) (by simp) (by simp)
  choice _ _ h := h.congr rfl rfl le_rfl
  ampRun _ _ _ h _ _ _ := h.congr (by simp) (by simp) (by simp)
  ampLock _ _ h _ _ := h.congr rfl rfl le_rfl
  ampMissed _ h := by unfold Machine.ampMissed; repeat' split
                      all_goals exact h.congr rfl rfl le_rfl
  ampLoss _ _ h _ := h.congr rfl rfl le_rfl
  ampReceive _ _ h := by unfold Machine.ampReceive; split <;> exact h.congr rfl rfl le_rfl
  reply _ h := by unfold replyStarts; split <;> exact h.congr rfl rfl le_rfl
  work n w h _ _ := QueuesFit.doWork (n := { n with boundary := n.boundary.erase w }) (h.congr rfl rfl le_rfl) w
  erase _ _ h := h.congr rfl rfl le_rfl
  handOver _ _ h _ := h.congr (by simp [(handOver_onlyEq _ _).settingLane]) (by simp [(handOver_onlyEq _ _).liveLane])
    (by simp [(handOver_onlyEq _ _).replies])
  judge _ l bytes h _ := h.judgeMessage l bytes

/-! ### R166, R167: the pass-through store -/

theorem mergerInput_length (i : MergerIn) (c : Cell) : (mergerInput i c).1.length ≤ 1 := by
  obtain ⟨marker, byte⟩ := c
  cases i <;> cases marker <;> simp only [mergerInput] <;> (try split) <;> simp

/-- R166: the count of a message in progress stays within its bound. -/
theorem mergerInput_count {i : MergerIn} {c : Cell} {k : Nat} (h : (mergerInput i c).2 = .inMessage k) :
    1 ≤ k ∧ k ≤ 131 := by
  obtain ⟨marker, byte⟩ := c
  unfold mergerInput at h
  split at h
  case h_6 =>
    split at h
    · cases h; omega
    · cases h
  all_goals cases h
  omega

/-- R166: an input cell adds at most one entry and leaves the output as it stands. -/
theorem mergerTake_fits (c : Option Cell) (m : Merger) :
    m.store.length ≤ (mergerTake c m).store.length ∧ (mergerTake c m).store.length ≤ m.store.length + 1 ∧
    (mergerTake c m).output = m.output ∧ ∀ k, (mergerTake c m).input = .inMessage k → 1 ≤ k ∧ k ≤ 131 := by
  rw [mergerTake_cell]
  have := mergerInput_length m.input (c.getD ⟨.idle, 0⟩)
  refine ⟨by simp, by simp; omega, rfl, fun k hk => mergerInput_count hk⟩

/-- The law of the merger against the replies that wait. -/
structure MergerFits (replies : List Message) (m : Merger) : Prop where
  store : m.store.length ≤ 132
  sending : ∀ pos, m.output = .sendingReply pos → pos ≤ 131 ∧ m.store.length ≤ pos
  aborting : m.output = .aborting → m.store.length ≤ 131
  input : ∀ c, m.input = .inMessage c → 1 ≤ c ∧ c ≤ 131
  replies : ∀ r ∈ replies, r.payload.length ≤ 127

theorem storeFits_iff (n : Node) : StoreFits n ↔ MergerFits n.replies n.merger :=
  ⟨fun ⟨a, b, c, d, e⟩ => ⟨a, b, c, d, e⟩, fun ⟨a, b, c, d, e⟩ => ⟨a, b, c, d, e⟩⟩

/-- R167: one byte of a reply whose position leaves room for one entry more in the store. -/
theorem sendReplyByte_fits {replies : List Message} {m : Merger} {pos : Nat} (hstore : m.store.length ≤ pos + 1)
    (hpos : pos ≤ 131) (hinput : ∀ c, m.input = .inMessage c → 1 ≤ c ∧ c ≤ 131)
    (hreplies : ∀ r ∈ replies, r.payload.length ≤ 127) :
    MergerFits (sendReplyByte pos replies m).replies (sendReplyByte pos replies m).merger := by
  have between (l : List Message) (hl : ∀ r ∈ l, r.payload.length ≤ 127) :
      MergerFits l { m with output := .between } :=
    ⟨by dsimp only; omega, by simp, by simp, hinput, hl⟩
  unfold sendReplyByte
  split
  · exact between [] (by simp)
  · rename_i r rest
    have hrest : ∀ x ∈ rest, x.payload.length ≤ 127 := fun x hx => hreplies x (by simp [hx])
    split
    · exact between rest hrest
    · split
      · rename_i hmore
        have hlen : (messageBytes r).length ≤ 132 := by
          rw [messageBytes_length]; have := hreplies r (by simp); omega
        refine ⟨by dsimp only; omega, ?_, by simp, hinput, hreplies⟩
        rintro p hp
        cases hp
        exact ⟨by omega, hstore⟩
      · exact between rest hrest

/-- R167: a stored cell leaves for each that may arrive. -/
theorem sendEntry_fits {replies : List Message} {m : Merger} (hstore : m.store.length ≤ 133)
    (hout : m.output = .between ∨ m.output = .sendingPass) (hinput : ∀ c, m.input = .inMessage c → 1 ≤ c ∧ c ≤ 131)
    (hreplies : ∀ r ∈ replies, r.payload.length ≤ 127) :
    MergerFits (sendEntry replies m).replies (sendEntry replies m).merger := by
  unfold sendEntry
  split
  · rename_i hs
    exact ⟨by simp [hs], by rcases hout with h | h <;> simp [h], by simp [hs], hinput, hreplies⟩
  · rename_i e rest hs
    rw [hs, List.length_cons] at hstore
    exact ⟨by dsimp only; omega, by cases e <;> simp [afterEntry], by cases e <;> simp [afterEntry], hinput, hreplies⟩

/-- R167: a reply starts only where the store is empty. -/
theorem store_of_replyMayStart {replies : List Message} {m : Merger} (h : replyMayStart replies m = true) :
    m.store = [] := by
  simp only [replyMayStart, Bool.and_eq_true, List.isEmpty_iff] at h
  exact h.1.1.2

/-- R167: the cell of a period in which a reply starts is its first byte. -/
theorem mergerSend_starts {replies : List Message} {m : Merger} (h : replyMayStart replies m = true) :
    mergerSend replies m = sendReplyByte 0 replies m := by
  simp [mergerSend, beginReply, h]

/-- R167: outside a message nothing starts a reply but `replyMayStart`. -/
theorem replyMayStart_between {replies : List Message} {m : Merger} (h : replyMayStart replies m = true) :
    m.output = .between := by
  simp only [replyMayStart, Bool.and_eq_true, beq_iff_eq] at h
  exact h.1.1.1

theorem mergerSend_sendingReply {replies : List Message} {m : Merger} {pos : Nat} (h : m.output = .sendingReply pos) :
    mergerSend replies m = sendReplyByte pos replies m := by
  have hno : ¬ replyMayStart replies m = true := fun hs => by simp [replyMayStart_between hs] at h
  rw [mergerSend, beginReply, if_neg hno, h]

theorem mergerSend_sendingPass {replies : List Message} {m : Merger} (h : m.output = .sendingPass) :
    mergerSend replies m = sendEntry replies m := by
  have hno : ¬ replyMayStart replies m = true := fun hs => by simp [replyMayStart_between hs] at h
  rw [mergerSend, beginReply, if_neg hno, h]

theorem mergerSend_between {replies : List Message} {m : Merger} (h : m.output = .between)
    (hno : ¬ replyMayStart replies m = true) : mergerSend replies m = sendEntry replies m := by
  rw [mergerSend, beginReply, if_neg hno, h]

theorem mergerSend_aborting {replies : List Message} {m : Merger} (h : m.output = .aborting) :
    mergerSend replies m = { cell := abortCell, merger := { m with output := .between }, replies := replies } := by
  have hno : ¬ replyMayStart replies m = true := fun hs => by simp [replyMayStart_between hs] at h
  rw [mergerSend, beginReply, if_neg hno, h]

theorem mergerSend_fits {replies : List Message} {m : Merger} (c : Option Cell) (h : MergerFits replies m) :
    MergerFits (mergerSend replies (mergerTake c m)).replies (mergerSend replies (mergerTake c m)).merger := by
  obtain ⟨-, hone, hout, hinput⟩ := mergerTake_fits c m
  have hstore := h.store
  generalize mergerTake c m = t at *
  by_cases hstart : replyMayStart replies t = true
  · rw [mergerSend_starts hstart]
    exact sendReplyByte_fits (by simp [store_of_replyMayStart hstart]) (by omega) hinput h.replies
  · cases ho : t.output with
    | between => rw [mergerSend_between ho hstart]; exact sendEntry_fits (by omega) (.inl ho) hinput h.replies
    | sendingPass => rw [mergerSend_sendingPass ho]; exact sendEntry_fits (by omega) (.inr ho) hinput h.replies
    | sendingReply pos =>
      obtain ⟨hpos, hlen⟩ := h.sending pos (hout ▸ ho)
      rw [mergerSend_sendingReply ho]
      exact sendReplyByte_fits (by omega) hpos hinput h.replies
    | aborting =>
      have hlen := h.aborting (hout ▸ ho)
      rw [mergerSend_aborting ho]
      exact ⟨by dsimp only; omega, by simp, by simp, hinput, h.replies⟩

theorem StoreFits.congr {n m : Node} (h : StoreFits n) (hm : m.merger = n.merger) (hr : m.replies = n.replies) :
    StoreFits m := by
  rw [storeFits_iff] at h ⊢
  rwa [hm, hr]

/-- The merger with nothing stored and between messages, or owing an ABORT, fits whatever its input. -/
theorem mergerFits_empty {replies : List Message} (i : MergerIn) (o : MergerOut)
    (hinput : ∀ c, i = .inMessage c → 1 ≤ c ∧ c ≤ 131) (ho : ∀ pos, o = .sendingReply pos → pos ≤ 131)
    (hr : ∀ r ∈ replies, r.payload.length ≤ 127) : MergerFits replies { store := [], input := i, output := o } :=
  ⟨by simp, fun pos hp => ⟨ho pos hp, by simp⟩, by simp, hinput, hr⟩

/-- R168: CLEAR cuts a reply short, and the store has room for the ABORT's period. -/
theorem mergerClear_fits {replies : List Message} {m : Merger} (h : MergerFits replies m) :
    MergerFits [] (mergerClear m) := by
  obtain ⟨hstore, hsending, haborting, hinput, -⟩ := h
  refine ⟨hstore, ?_, ?_, hinput, by simp⟩
  · intro pos hp
    unfold mergerClear at hp
    dsimp only at hp
    split at hp <;> cases hp
  · intro hp
    unfold mergerClear at hp ⊢
    dsimp only at hp
    split at hp
    · cases hp
    · rename_i pos ho
      have := hsending _ ho
      dsimp only; omega
    · cases hp
    · cases hp
    · exact haborting ‹_›

theorem carryOut_storeFits {k : Kind} {m : Message} {n : Node} (h : StoreFits n) : StoreFits (carryOut k m n) := by
  have hm : (carryOut k m n).merger = n.merger := (carryOut_sameOuter k m n).merger
  obtain hr | ⟨-, p, hp, hr⟩ := carryOut_replies k m n
  · exact h.congr hm hr
  · refine ⟨hm ▸ h.store, hm ▸ h.sending, hm ▸ h.aborting, hm ▸ h.input, fun r hmem => ?_⟩
    simp only [hr, postReply, List.mem_append, List.mem_singleton] at hmem
    obtain hmem | rfl := hmem
    · exact h.replies r hmem
    · exact hp

theorem takeLane_storeFits {n : Node} (l : LaneId) (h : StoreFits n) : StoreFits (takeLane l n) := by
  have hpop : StoreFits (popLane l n) := h.congr (by simp) (by simp)
  unfold takeLane perform
  repeat' split
  all_goals
    first
    | exact h
    | exact carryOut_storeFits hpop
    | exact hpop.congr (by simp) (by simp)

theorem doWork_storeFits {n : Node} (w : Work) (h : StoreFits n) : StoreFits (doWork w n) := by
  by_cases hl : w = .liveTake
  · subst hl; exact takeLane_storeFits .live h
  by_cases hs : w = .settingTake
  · subst hs; exact takeLane_storeFits .setting h
  obtain ⟨-, -, hr, hm⟩ := doWork_lanes n hl hs
  exact h.congr hm hr

theorem takeCode_storeFits {n : Node} (c : Option Code) (hop : BitVec 3) (h : StoreFits n) :
    StoreFits (takeCode c hop n) := by
  refine takeCode_keeps StoreFits c hop n h (h.congr (by simp) (by simp)) ?_
    fun d _ => h.congr (by simp) (by simp)
  rw [storeFits_iff] at h ⊢
  simp only [clearNode, setAccepted_merger]
  split
  · exact mergerFits_empty _ _ (by simp) (by simp) (by simp)
  · exact mergerClear_fits h

/-- R167: where a reply starts, nothing is stored. -/
theorem replyStarts_storeFits {n : Node} (h : StoreFits n) : StoreFits (replyStarts n) := by
  unfold replyStarts
  split
  · rename_i hdue
    simp only [replyDue, Bool.and_eq_true] at hdue
    have hempty := (mergerTake_fits (mergerCell n.link) n.merger).1
    rw [store_of_replyMayStart hdue.2] at hempty
    refine ⟨h.store, ?_, by simp, h.input, h.replies⟩
    rintro pos hp
    cases hp
    exact ⟨by omega, hempty⟩
  · exact h

/-- R168: the loss of amp-side lock empties the store and leaves a reply in progress where it is. -/
theorem ampLoss_storeFits {n : Node} (h : StoreFits n) : StoreFits (ampLoss n) := by
  refine (storeFits_iff _).mpr (mergerFits_empty _ _ (by simp) (fun pos hp => ?_) h.replies)
  split at hp
  · cases hp
  · exact (h.sending pos hp).1

theorem storeFits_kept : Kept StoreFits where
  reset n _ := (storeFits_iff _).mpr (mergerFits_empty _ _ (by simp) (by simp) (by simp [assertReset]))
  release _ h := h.congr rfl rfl
  headRun _ _ _ h _ _ := h.congr (by simp) (by simp)
  firstLock _ _ _ h _ _ := h.congr rfl rfl
  relock _ _ _ h _ _ := h.congr (by simp [relock]) (by simp [relock])
  headLoss _ h _ _ := (storeFits_iff _).mpr (mergerFits_empty _ _ (by simp) (by simp) h.replies)
  headCount _ _ h _ _ := h.congr (by simp) (by simp)
  upstream n h _ := by
    unfold sendUpstream
    split
    · exact h.congr (by simp) (by simp)
    · exact (storeFits_iff _).mpr (mergerSend_fits _ ((storeFits_iff n).mp h))
  delays _ h _ := h.congr (by simp) (by simp)
  code _ c hop h := takeCode_storeFits c hop h
  hop _ _ h := h.congr (by simp) (by simp)
  noHop _ h := h.congr (by simp) (by simp)
  cells _ _ _ h := h.congr (by simp) (by simp)
  sources _ _ h := h.congr (by simp) (by simp)
  form _ _ h _ := h.congr (by simp) (by simp)
  count _ h _ _ := h.congr (by simp) (by simp)
  choice _ _ h := h.congr rfl rfl
  ampRun _ _ _ h _ _ _ := h.congr (by simp) (by simp)
  ampLock _ _ h _ _ := ⟨h.store, h.sending, h.aborting, by simp [ampLock], h.replies⟩
  ampMissed n h := by
    unfold ampMissed
    repeat' split
    · exact ampLoss_storeFits h
    · exact h.congr rfl rfl
    · exact h
  ampLoss _ _ h _ := ampLoss_storeFits h
  ampReceive _ _ h := by unfold ampReceive; split <;> exact h.congr rfl rfl
  reply _ h := replyStarts_storeFits h
  work n w h _ _ := doWork_storeFits (n := { n with boundary := n.boundary.erase w }) w (h.congr rfl rfl)
  erase _ _ h := h.congr rfl rfl
  handOver i _ h _ := h.congr (handOver_onlyEq _ _).merger (handOver_onlyEq _ _).replies
  judge _ _ _ h _ := h.congr (by simp) (by simp)

/-- Settles O57: each piece of a command keeps the laws of the queues and of the store. -/
theorem stepsKeepTheQueuesWithinTheirRoom : Obligations.StepsKeepTheQueuesWithinTheirRoom :=
  fun s t ht => ⟨fun h => queuesFit_kept.step s t h ht, fun h => storeFits_kept.step s t h ht⟩

end Sys2Proof.Machine
end
section
/-! PROOFS. What the laws of the tables, the levels and the EQ engine read; output slots stay distinct and codes stay
in range (R28, R39, R40, R21). -/

namespace Sys2Proof.Machine

/-! ### Principles -/

/-- What the laws of the speakers' slots, of the codes and of the crossfades read of a node. -/
structure SameLaws (n m : Node) : Prop where
  control : m.control = n.control
  link : m.link = n.link
  speakerTable : m.tables.speakers = n.tables.speakers
  records : m.eq.records = n.eq.records
  slots : m.eq.slots = n.eq.slots
  waiting : m.eq.waiting = n.eq.waiting
  pairGains : m.levels.pairs = n.levels.pairs
  speakerGains : m.levels.speakers = n.levels.speakers

/-- A law that reads no more, and that each change of the speakers and of the EQ state by a message keeps. -/
structure KeptByMessages (P : Node → Prop) : Prop where
  same : ∀ n m, SameLaws n m → P n → P m
  speaker : ∀ mask k new n, slotConflict n.tables k new = false → P n → P (writeSpeaker mask k new n)
  band : ∀ k band s n, P n → P (setTables (fun t => { t with speakers := modifyVec k (setBandEntry band s) t.speakers }) n)
  request : ∀ k n, P n → P (request k n)

namespace KeptByMessages

variable {P : Node → Prop} (h : KeptByMessages P)

include h

theorem refuse {n : Node} (hp : P n) : P (refuse n) :=
  h.same n _ (by constructor <;> simp [Machine.refuse]) hp

theorem writeElement {t : TableId} {mask idx : Nat} {vs : List (Nat × GroupValue)} {n : Node} (hp : P n) :
    P (writeElement t mask idx vs n) := by
  unfold Machine.writeElement
  split <;> refine writeAt_keeps P _ _ _ _ _ _ _ _ (h.refuse hp) ?_ <;> intro i r _ hok
  case h_2 => exact h.speaker mask i r n (by simpa using hok) hp
  all_goals exact h.same n _ (by constructor <;> simp [writeZone]) hp

theorem carryTableWrite {payload : List Byte} {n : Node} (hp : P n) : P (carryTableWrite payload n) := by
  unfold Machine.carryTableWrite
  repeat' split
  · exact writeElements_keeps P _ _ (fun _ _ _ hx => h.writeElement hx) (fun _ hx => h.refuse hx) _ _ _ _ hp
  · exact h.refuse hp
  · exact hp

theorem carryEqSelect {payload : List Byte} {n : Node} (hp : P n) : P (carryEqSelect payload n) := by
  unfold Machine.carryEqSelect
  repeat' split
  · exact selectSpeakers_keeps P _ _ (fun k x hx => h.request k _ (h.band k _ _ x hx)) _ _ hp
  · exact h.refuse hp
  · exact hp

theorem validReport {raw : Nat} {n : Node} (hp : P n) : P (validReport raw n) := by
  unfold Machine.validReport evaluateBand
  dsimp only
  split
  · exact h.same n _ (by constructor <;> rfl) hp
  · exact requestAll_keeps P h.request _ _ (h.same n _ (by constructor <;> simp) hp)

/-- R156: such a law is kept by whatever message is carried out. -/
theorem carryOut {k : Kind} {m : Message} {n : Node} (hp : P n) : P (carryOut k m n) := by
  cases k
  case tableWrite => exact h.carryTableWrite hp
  case eqSelect => exact h.carryEqSelect hp
  case speed =>
    simp only [Machine.carryOut, carrySpeed]
    repeat' split
    · exact h.validReport hp
    · exact h.same n _ (by constructor <;> simp [invalidReport]) hp
    · exact h.refuse hp
    · exact hp
  all_goals
    refine h.same n _ ?_ hp
    simp only [Machine.carryOut, carryTableRead, carryIdentRead, carryLevel, carryProgramTrim, carryBalanceFade,
      carryMute, carryCabin, carryPresence, carryRampControl, carryStatusRead]
    repeat' split
  all_goals constructor <;> simp [Machine.refuse, clearClipCount]

theorem takeLane {l : LaneId} {n : Node} (hp : P n) : P (takeLane l n) := by
  have hpop : P (popLane l n) := h.same n _ (by constructor <;> simp) hp
  unfold Machine.takeLane perform
  repeat' split
  all_goals
    first
    | exact hp
    | exact h.carryOut hpop
    | exact h.same _ _ (by constructor <;> simp) hpop

/-- Such a law is kept by a boundary when the works that change what it reads keep it. -/
theorem doWork {w : Work} {n : Node} (hcomplete : ∀ i, P n → P (completeFade i n))
    (hcompose : P n → P (composeLevels n)) (hstarting : P n → P (countStarting n)) (hp : P n) : P (doWork w n) := by
  cases w with
  | liveTake => exact h.takeLane hp
  | settingTake => exact h.takeLane hp
  | judge p => exact h.same n _ (by constructor <;> simp [Machine.doWork]) hp
  | track => exact h.same n _ (by constructor <;> simp [Machine.doWork, trackStep]) hp
  | guardStep => exact h.same n _ (by constructor <;> simp [Machine.doWork, Machine.guardStep]) hp
  | ramp u => exact h.same n _ (by constructor <;> simp [Machine.doWork, rampStep]) hp
  | complete i => exact hcomplete i hp
  | shelf =>
    simp only [Machine.doWork, formShelf]
    split
    · exact h.same n _ (by constructor <;> rfl) hp
    · exact hp
  | compose => exact hcompose hp
  | starting => exact hstarting hp

end KeptByMessages

/-! ### A speaker element that is written -/

theorem writeSpeaker_tables (mask : Nat) (k : Fin 24) (new : Speaker) (n : Node) :
    (writeSpeaker mask k new n).tables = { n.tables with speakers := putVec k new n.tables.speakers } := by
  unfold writeSpeaker
  dsimp only
  rw [(speakerRequest_onlyEq _ _ _ _ _).tables]
  split <;> simp [disableSpeaker, (disableEq_onlyEq _ _).tables, (zeroShelfWhenOff_onlyEq _ _).tables]

/-- R29: a write that disables a speaker ends its gain; any other leaves the levels alone. -/
theorem writeSpeaker_levels (mask : Nat) (k : Fin 24) (new : Speaker) (n : Node) :
    (writeSpeaker mask k new n).levels =
      if n.tables.speakers[k].enabled && !new.enabled then (disableLevels k n).levels else n.levels := by
  unfold writeSpeaker
  dsimp only
  rw [(speakerRequest_onlyEq _ _ _ _ _).levels]
  split <;> simp [disableSpeaker, disableLevels, (disableEq_onlyEq _ _).levels, (zeroShelfWhenOff_onlyEq _ _).levels]

/-! ### R28: output slots -/

/-- No enabled speaker, no output slot to share. -/
theorem slotsDistinct_reset {n : Node} (h : n.tables = {}) : SlotsDistinct n := by
  intro j k hj
  simp [h] at hj

theorem SlotsDistinct.congr {n m : Node} (h : SlotsDistinct n) (ht : m.tables = n.tables) : SlotsDistinct m := by
  unfold SlotsDistinct
  rw [ht]
  exact h

/-- R28: the check at a write is what keeps the slots apart. -/
theorem writeSpeaker_slotsDistinct {mask : Nat} {k : Fin 24} {new : Speaker} {n : Node}
    (hok : slotConflict n.tables k new = false) (h : SlotsDistinct n) : SlotsDistinct (writeSpeaker mask k new n) := by
  have hfree (j : Fin 24) (hj : j ≠ k) (hn : new.enabled = true) (he : n.tables.speakers[j].enabled = true) :
      n.tables.speakers[j].slot ≠ new.slot := by
    intro hs
    simp only [slotConflict, hn, Bool.true_and, List.any_eq_false] at hok
    exact hok j (List.mem_finRange j) (by rw [he, hs]; simp [hj])
  have hat (j : Fin 24) : (writeSpeaker mask k new n).tables.speakers[j] =
      if j = k then new else n.tables.speakers[j] := by
    simp [writeSpeaker_tables, Fin.ext_iff]
  intro i j hi hj hs
  rw [hat] at hi hs
  rw [hat] at hj hs
  by_cases hik : i = k <;> by_cases hjk : j = k
  · rw [hik, hjk]
  · rw [if_pos hik] at hi hs
    rw [if_neg hjk] at hj hs
    exact absurd hs.symm (hfree j hjk hi hj)
  · rw [if_neg hik] at hi hs
    rw [if_pos hjk] at hj hs
    exact absurd hs (hfree i hik hj hi)
  · rw [if_neg hik] at hi hs
    rw [if_neg hjk] at hj hs
    exact h i j hi hj hs

theorem setBandEntry_fields (band : Option (Fin 4)) (s : SetRef) (r : Speaker) :
    (setBandEntry band s r).enabled = r.enabled ∧ (setBandEntry band s r).slot = r.slot := by
  cases band <;> exact ⟨rfl, rfl⟩

theorem setBandEntry_slotsDistinct {k : Fin 24} {band : Option (Fin 4)} {s : SetRef} {n : Node}
    (h : SlotsDistinct n) :
    SlotsDistinct (setTables (fun t => { t with speakers := modifyVec k (setBandEntry band s) t.speakers }) n) := by
  have hat (j : Fin 24) : (modifyVec k (setBandEntry band s) n.tables.speakers)[j].enabled =
      n.tables.speakers[j].enabled ∧ (modifyVec k (setBandEntry band s) n.tables.speakers)[j].slot =
      n.tables.speakers[j].slot := by
    simp only [Fin.getElem_fin, modifyVec_getElem]
    split <;> simp [setBandEntry_fields]
  intro i j
  simp only [setTables_tables, hat]
  exact h i j

theorem slotsDistinct_keptByMessages : KeptByMessages SlotsDistinct where
  same n m hs h := by
    unfold SlotsDistinct
    rw [hs.speakerTable]
    exact h
  speaker _ _ _ _ hok h := writeSpeaker_slotsDistinct hok h
  band _ _ _ _ h := setBandEntry_slotsDistinct h
  request k n h := h.congr (request_onlyEq k n).tables

theorem slotsDistinct_kept : Kept SlotsDistinct where
  reset _ _ := slotsDistinct_reset rfl
  release _ h := h.congr rfl
  headRun _ _ _ h _ _ := h.congr (by simp)
  firstLock _ _ _ h _ _ := h.congr rfl
  relock _ _ _ h _ _ := h.congr (by simp [relock])
  headLoss _ h _ _ := h.congr rfl
  headCount _ _ h _ _ := h.congr (by simp)
  upstream _ h _ := h.congr (by simp)
  delays _ h _ := h.congr (by simp)
  code n c hop h := takeCode_keeps SlotsDistinct c hop n h (h.congr (by simp)) (slotsDistinct_reset (by simp [clearNode]))
    fun _ _ => h.congr (by simp)
  hop _ _ h := h.congr (by simp)
  noHop _ h := h.congr (by simp)
  cells _ _ _ h := h.congr (by simp)
  sources _ _ h := h.congr (by simp)
  form _ _ h _ := h.congr (by simp)
  count _ h _ _ := h.congr (by simp)
  choice _ _ h := h.congr rfl
  ampRun _ _ _ h _ _ _ := h.congr (by simp)
  ampLock _ _ h _ _ := h.congr rfl
  ampMissed _ h := by
    unfold ampMissed
    repeat' split
    all_goals exact h.congr rfl
  ampLoss _ _ h _ := h.congr rfl
  ampReceive _ _ h := by unfold ampReceive; split <;> exact h.congr rfl
  reply _ h := by unfold replyStarts; split <;> exact h.congr rfl
  work n w h _ _ := by
    refine slotsDistinct_keptByMessages.doWork (fun i hx => hx.congr (completeFade_onlyEq i _).tables) (fun hx => ?_)
      (fun hx => ?_) (h.congr rfl)
    · unfold composeLevels; split <;> exact hx.congr rfl
    · unfold countStarting; split <;> exact hx.congr rfl
  erase _ _ h := h.congr rfl
  handOver n i h _ := h.congr (handOver_onlyEq i n).tables
  judge _ _ _ h _ := h.congr (by simp)

/-! ### R39, R40, R21: codes and linear gains -/

/-- The reset gain of a pair or a speaker. -/
theorem gainFits_reset {hi : Int} (h : -960 ≤ hi) : GainFits hi {} := ⟨le_rfl, h, le_rfl, h, rfl⟩

theorem clamp_bounds {lo hi : Int} (h : lo ≤ hi) (x : Int) : lo ≤ clamp lo hi x ∧ clamp lo hi x ≤ hi := by
  unfold clamp
  omega

/-- R39: a smoother step between two codes of a range stays in the range. -/
theorem smooth_bounds {lo hi target applied : Int} (down up : Nat) (ht : lo ≤ target ∧ target ≤ hi)
    (ha : lo ≤ applied ∧ applied ≤ hi) :
    lo ≤ smooth down up target applied ∧ smooth down up target applied ≤ hi := by
  unfold smooth
  split <;> omega

theorem formGain_fits {hi applied : Int} (ramp : Int) (hhi : -960 ≤ hi) (ha : -960 ≤ applied ∧ applied ≤ hi) :
    GainFits hi (formGain hi applied ramp) :=
  ⟨ha.1, ha.2, (clamp_bounds hhi _).1, (clamp_bounds hhi _).2, rfl⟩

theorem speakerTarget_bounds (n : Node) (k : Fin 24) : -960 ≤ speakerTarget n k ∧ speakerTarget n k ≤ 192 := by
  unfold speakerTarget
  split
  · omega
  · exact clamp_bounds (by omega) _

theorem CodesFit.composeLevels {n : Node} (h : CodesFit n) : CodesFit (composeLevels n) := by
  unfold Machine.composeLevels
  split
  · refine ⟨fun i => ?_, fun k => ?_⟩
    · have hi := h.pairs i
      simp only [Fin.getElem_fin, Vector.getElem_ofFn, composePair]
      exact formGain_fits _ (by omega)
        (smooth_bounds _ _ (clamp_bounds (by omega) _) ⟨hi.applied_low, hi.applied_high⟩)
    · have hk := h.speakers k
      simp only [Fin.getElem_fin, Vector.getElem_ofFn, composeSpeaker]
      split
      · exact formGain_fits _ (by omega)
          (smooth_bounds _ _ (speakerTarget_bounds n k) ⟨hk.applied_low, hk.applied_high⟩)
      · exact hk
  · exact h

theorem CodesFit.congr {n m : Node} (h : CodesFit n) (hp : m.levels.pairs = n.levels.pairs)
    (hs : m.levels.speakers = n.levels.speakers) : CodesFit m :=
  ⟨by rw [hp]; exact h.pairs, by rw [hs]; exact h.speakers⟩

/-- R41: silenced levels fit. -/
theorem codesFit_silent {n : Node} (hp : n.levels.pairs = .replicate 16 {}) (hs : n.levels.speakers = .replicate 24 {}) :
    CodesFit n :=
  ⟨fun i => by simpa [hp] using gainFits_reset (by omega), fun k => by simpa [hs] using gainFits_reset (by omega)⟩

theorem CodesFit.disableLevels {k : Fin 24} {n : Node} (h : CodesFit n) : CodesFit (disableLevels k n) := by
  refine ⟨by simpa [Machine.disableLevels] using h.pairs, fun j => ?_⟩
  rw [Machine.disableLevels, putVec_at]
  split
  · exact gainFits_reset (by omega)
  · exact h.speakers j

theorem codesFit_keptByMessages : KeptByMessages CodesFit where
  same _ _ hs h := h.congr hs.pairGains hs.speakerGains
  speaker mask k new n _ h := by
    have hl := writeSpeaker_levels mask k new n
    split at hl
    · exact (h.disableLevels (k := k)).congr (by rw [hl]) (by rw [hl])
    · exact h.congr (by rw [hl]) (by rw [hl])
  band _ _ _ _ h := h.congr (by simp) (by simp)
  request k n h := h.congr (by rw [(request_onlyEq k n).levels]) (by rw [(request_onlyEq k n).levels])

/-- R142: the move into HALTED silences the levels; any other leaves them alone. -/
theorem moveByCode_codesFit {d : Code} {n : Node} (h : CodesFit n) : CodesFit (moveByCode d n) := by
  unfold moveByCode moveTo
  repeat' split
  · exact codesFit_silent (by simp [silenceLevels]) (by simp [silenceLevels])
  all_goals exact h.congr (by simp) (by simp)

theorem hopCheck_codesFit {hop : BitVec 3} {n : Node} (h : CodesFit n) : CodesFit (hopCheck hop n) := by
  unfold hopCheck
  split
  · split
    · split
      · exact h.congr (by simp) (by simp)
      · split
        · exact codesFit_silent (by simp [enterFault, silenceLevels]) (by simp [enterFault, silenceLevels])
        · exact h.congr (by simp) (by simp)
    · exact h
  · exact h

theorem audioFrame_gains (slots : Vector Sample 32) (n : Node) :
    (audioFrame slots n).1.levels.pairs = n.levels.pairs ∧
    (audioFrame slots n).1.levels.speakers = n.levels.speakers := by
  unfold audioFrame
  split <;> simp [storeFrames, countSlots]

theorem countFrame_gains (n : Node) : (countFrame n).levels.pairs = n.levels.pairs ∧
    (countFrame n).levels.speakers = n.levels.speakers := by
  unfold countFrame openBoundary
  repeat' split
  all_goals simp [handOverMarks]

theorem codesFit_kept : Kept CodesFit where
  reset _ _ := codesFit_silent rfl rfl
  release _ h := h.congr rfl rfl
  headRun _ _ _ h _ _ := h.congr (by simp) (by simp)
  firstLock _ _ _ h _ _ := h.congr rfl rfl
  relock _ _ _ _ _ _ := codesFit_silent (by simp [relock, relockLevels]) (by simp [relock, relockLevels])
  headLoss _ h _ _ := h.congr rfl rfl
  headCount _ _ h _ _ := h.congr (by simp) (by simp)
  upstream _ h _ := h.congr (by simp) (by simp)
  delays _ h _ := h.congr (by simp) (by simp)
  code n c hop h := takeCode_keeps CodesFit c hop n h (h.congr (by simp) (by simp))
    (codesFit_silent (by simp [clearNode]) (by simp [clearNode])) fun _ _ => moveByCode_codesFit (h.congr (by simp) (by simp))
  hop _ _ h := hopCheck_codesFit h
  noHop _ h := h.congr (by simp) (by simp)
  cells _ _ _ h := h.congr (by simp) (by simp)
  sources _ _ h := h.congr (by simp) (by simp)
  form _ _ h _ := h.congr (by simp [formFrame, audioFrame_gains]) (by simp [formFrame, audioFrame_gains])
  count _ h _ _ := h.congr (by simp [countFrame_gains]) (by simp [countFrame_gains])
  choice _ _ h := h.congr rfl rfl
  ampRun _ _ _ h _ _ _ := h.congr (by simp) (by simp)
  ampLock _ _ h _ _ := h.congr rfl rfl
  ampMissed _ h := by
    unfold ampMissed
    repeat' split
    all_goals exact h.congr rfl rfl
  ampLoss _ _ h _ := h.congr rfl rfl
  ampReceive _ _ h := by unfold ampReceive; split <;> exact h.congr rfl rfl
  reply _ h := by unfold replyStarts; split <;> exact h.congr rfl rfl
  work n w h _ _ := by
    refine codesFit_keptByMessages.doWork (fun i hx => ?_) (fun hx => hx.composeLevels) (fun hx => ?_) (h.congr rfl rfl)
    · exact hx.congr (by rw [(completeFade_onlyEq i _).levels]) (by rw [(completeFade_onlyEq i _).levels])
    · unfold countStarting; split <;> exact hx.congr rfl rfl
  erase _ _ h := h.congr rfl rfl
  handOver n i h _ := h.congr (by rw [(handOver_onlyEq i n).levels]) (by rw [(handOver_onlyEq i n).levels])
  judge _ _ _ h _ := h.congr (by simp) (by simp)

/-- Settles O58: each piece of a command keeps the slots distinct and the codes in range. -/
theorem stepsKeepSlotsDistinctAndCodesInRange : Obligations.StepsKeepSlotsDistinctAndCodesInRange :=
  fun s t ht => ⟨fun h => slotsDistinct_kept.step s t h ht, fun h => codesFit_kept.step s t h ht⟩

end Sys2Proof.Machine
end

section
/-! PROOFS. The node state and the link port stand to each other as their laws have them (R126 to R148). -/

namespace Sys2Proof.Machine

/-! ### A node whose head side is LOCKED -/

/-- What the laws of the link ask of a node outside DETACHED. -/
structure Attached (n : Node) : Prop where
  node : n.control.node ≠ .detached
  head : ∃ k, n.link.head = .locked k ∧ k < 4
  amp : receiverFits n.link.amp
  place : ∃ a, n.link.address = some a ∧ (4 ≤ a.toNat ↔ n.control.node = .passive)
  mismatch : n.link.mismatch < 2 ∧ (hopCheckRuns n.control.node = false → n.link.mismatch = 0)
  frames : n.link.frameInBlock < 32

theorem Attached.linkFits {n : Node} (h : Attached n) : LinkFits n := by
  obtain ⟨k, hk, hlt⟩ := h.head
  exact {
    lock := ⟨fun hd => absurd hd h.node, fun ⟨run, hr⟩ => by simp [hk] at hr⟩
    head := by rw [hk]; exact hlt
    amp := h.amp
    silent := fun hd => absurd hd h.node
    place := fun _ => h.place
    back := fun hd => absurd hd h.node
    mismatch := h.mismatch
    frames := h.frames }

theorem LinkFits.attached {n : Node} (h : LinkFits n) (hd : n.control.node ≠ .detached) : Attached n := by
  refine ⟨hd, ?_, h.amp, h.place hd, h.mismatch, h.frames⟩
  have hhead := h.head
  cases hk : n.link.head with
  | hunting run => exact absurd (h.lock.mpr ⟨run, hk⟩) hd
  | locked k => rw [hk] at hhead; exact ⟨k, rfl, hhead⟩

theorem LinkFits.attached_of_locked {n : Node} (h : LinkFits n) (hl : headLocked n) : Attached n := by
  refine h.attached fun hd => ?_
  obtain ⟨run, hr⟩ := h.lock.mp hd
  obtain ⟨k, hk⟩ := hl
  simp [hr] at hk

/-- R137: an amp side that is LOCKED belongs to a node outside DETACHED. -/
theorem LinkFits.attached_of_amp {n : Node} {m : Nat} (h : LinkFits n) (ha : n.link.amp = .locked m) : Attached n := by
  refine h.attached fun hd => ?_
  obtain ⟨-, -, -, -, hamp, -⟩ := h.silent hd
  simp [hamp] at ha

theorem LinkFits.detached_of_hunting {n : Node} {run : Nat} (h : LinkFits n) (hr : n.link.head = .hunting run) :
    n.control.node = .detached := h.lock.mpr ⟨run, hr⟩

/-! ### What leaves the laws as they are -/

theorem LinkFits.congr {n m : Node} (h : LinkFits n) (hc : m.control = n.control) (hl : m.link = n.link)
    (hb : n.boundary = [] → m.boundary = []) : LinkFits m := by
  obtain ⟨hlock, hhead, hamp, hsilent, hplace, hback, hmismatch, hframes⟩ := h
  constructor
  case silent =>
    rw [hc, hl]
    intro hd
    obtain ⟨h1, h2, h3, h4, h5, h6, h7⟩ := hsilent hd
    exact ⟨h1, h2, h3, h4, h5, h6, hb h7⟩
  all_goals simpa only [hc, hl]

/-- Outside DETACHED the frames on their way, the candidate and the boundary are free. -/
theorem Attached.congr {n m : Node} (h : Attached n) (hc : m.control.node = n.control.node)
    (hhead : m.link.head = n.link.head) (hamp : receiverFits m.link.amp) (ha : m.link.address = n.link.address)
    (hm : m.link.mismatch = n.link.mismatch) (hf : m.link.frameInBlock < 32) : Attached m := by
  obtain ⟨h1, h2, -, h4, h5, -⟩ := h
  exact ⟨by rwa [hc], by rwa [hhead], hamp, by rwa [ha, hc], by rwa [hm, hc], hf⟩

/-! ### Lock and loss of lock -/

/-- R139, R147: an address of 4 to 7 makes the node PASSIVE. -/
theorem stateOfAddress_spec (a : BitVec 3) :
    stateOfAddress a ≠ .detached ∧ (4 ≤ a.toNat ↔ stateOfAddress a = .passive) := by
  unfold stateOfAddress
  split <;> simp <;> omega

/-- R149: a relock enters the place that the return state and the address allow. -/
theorem relockState_spec {r : NodeState} (c : Code) (hr : r ≠ .detached) :
    relockState (some r) c ≠ .detached ∧ (relockState (some r) c = .passive ↔ r = .passive) := by
  cases r <;> cases c <;> simp_all [relockState, stateOfCode]

theorem firstLock_linkFits {n : Node} {hop : BitVec 3} (h : LinkFits n) :
    LinkFits (firstLock hop n) := by
  obtain ⟨hd, hp⟩ := stateOfAddress_spec hop
  exact Attached.linkFits ⟨hd, ⟨0, rfl, by omega⟩, h.amp, ⟨hop, rfl, hp⟩, ⟨by simp [firstLock, lockLink], fun _ => rfl⟩,
    by simp [firstLock, lockLink]⟩

theorem relock_linkFits {n : Node} {run : Nat} {hop : BitVec 3} (h : LinkFits n) (hr : n.link.head = .hunting run)
    (ha : n.link.address.isSome = true) : LinkFits (relock hop n) := by
  obtain ⟨a, ha⟩ := Option.isSome_iff_exists.mp ha
  obtain ⟨r, hret, hnot, hplace⟩ := h.back (h.detached_of_hunting hr) a ha
  obtain ⟨hd, hp⟩ := relockState_spec n.link.accepted hnot
  refine Attached.linkFits ⟨?_, ⟨0, ?_, by omega⟩, ?_, ⟨a, ?_, ?_⟩, ?_, ?_⟩
  · simpa [relock, hret] using hd
  · simp [relock, lockLink]
  · simpa [relock, lockLink] using h.amp
  · simpa [relock, lockLink] using ha
  · simpa [relock, hret, hp] using hplace
  · simp [relock, lockLink]
  · simp [relock, lockLink]

theorem headLoss_linkFits {n : Node} (h : Attached n) (hb : n.boundary = []) : LinkFits (headLoss n) := by
  obtain ⟨a, ha, hplace⟩ := h.place
  constructor
  case lock => simp [headLoss]
  case head => exact Nat.zero_lt_succ 7
  case amp => exact Nat.zero_lt_succ 7
  case silent => simp [headLoss, hb]
  case place => simp [headLoss]
  case back =>
    intro _ b hb
    have : b = a := Option.some_inj.mp (hb.symm.trans ha)
    exact ⟨n.control.node, rfl, h.node, this ▸ hplace⟩
  case mismatch => simp [headLoss]
  case frames => exact h.frames

/-! ### Codes and hop counts -/

/-- R142: a code moves the working states among themselves, which all have their place at an address of 0 to 3. -/
theorem Attached.moveByCode {n : Node} (h : Attached n) (d : Code) : Attached (moveByCode d n) := by
  unfold Machine.moveByCode
  split
  · rename_i he
    have working (s : NodeState) (hs : s = .halted ∨ s = .quiet ∨ s = .active) {m : Node} (hn : m.control.node = s)
        (hl : m.link = n.link) : Attached m := by
      obtain ⟨a, ha, hplace⟩ := h.place
      have hnot : ¬ 4 ≤ a.toNat := fun h4 => by simp [hplace.mp h4, executorRuns] at he
      refine ⟨?_, hl ▸ h.head, hl ▸ h.amp, ⟨a, hl ▸ ha, ?_⟩, ⟨hl ▸ h.mismatch.1, ?_⟩, hl ▸ h.frames⟩
      · rcases hs with rfl | rfl | rfl <;> simp [hn]
      · rcases hs with rfl | rfl | rfl <;> simp [hn] <;> omega
      · rcases hs with rfl | rfl | rfl <;> simp [hn, hopCheckRuns]
    cases d
    · exact working .active (by simp) rfl (by simp)
    · exact working .quiet (by simp) rfl (by simp)
    · exact working .halted (by simp) (by simp [moveTo, stateOfCode]) (by simp)
    · exact working .halted (by simp) (by simp [moveTo, stateOfCode]) (by simp)
  · exact h

theorem takeCode_linkFits {n : Node} (c : Option Code) (hop : BitVec 3) (h : LinkFits n) :
    LinkFits (takeCode c hop n) := by
  obtain ⟨-, e⟩ | ⟨hd, e⟩ | ⟨hd, d, -, -, -, e⟩ := takeCode_cases c hop n <;> rw [e]
  · exact h
  · exact ((h.attached hd).congr (by simp) (by simp) (by simpa using h.amp) (by simp) (by simp)
      (by simpa using h.frames)).linkFits
  · have haccepted : Attached (setAccepted d n) := (h.attached hd).congr (by simp) (by simp) (by simpa using h.amp)
      (by simp) (by simp) (by simpa using h.frames)
    obtain ⟨-, e⟩ | ⟨-, e⟩ := acceptCode_cases d hop n <;> rw [e]
    · obtain ⟨hnode, hplace⟩ := stateOfAddress_spec hop
      refine Attached.linkFits ⟨hnode, by simpa [clearNode] using haccepted.head, ?_, ⟨hop, rfl, hplace⟩, ?_, ?_⟩
      · simpa [clearNode] using h.amp
      · simp [clearNode]
      · simpa [clearNode] using h.frames
    · exact (haccepted.moveByCode d).linkFits

theorem setMismatch_zero_linkFits {n : Node} (h : LinkFits n) : LinkFits (setMismatch 0 n) :=
  ⟨h.lock, h.head, h.amp, h.silent, h.place, h.back, by simp, h.frames⟩

/-- R131: the count stays below 2, since the second mismatch enters FAULT. -/
theorem hopCheck_linkFits {n : Node} {hop : BitVec 3} (h : LinkFits n) : LinkFits (hopCheck hop n) := by
  unfold hopCheck
  split
  · rename_i hruns
    have hatt := h.attached fun hd => by simp [hd, hopCheckRuns] at hruns
    split
    · rename_i a ha
      split
      · exact setMismatch_zero_linkFits h
      · split
        · obtain ⟨b, hb, hplace⟩ := hatt.place
          have hnot : ¬ 4 ≤ b.toNat := fun h4 => by simp [hplace.mp h4, hopCheckRuns] at hruns
          exact Attached.linkFits ⟨by simp [enterFault], by simpa [enterFault] using hatt.head,
            by simpa [enterFault] using h.amp, ⟨b, by simpa [enterFault] using hb, by simp [enterFault]; omega⟩,
            by simp [enterFault], by simpa [enterFault] using h.frames⟩
        · refine Attached.linkFits ⟨by simpa using hatt.node, by simpa using hatt.head, by simpa using h.amp,
            by simpa using hatt.place, ⟨by simp; omega, ?_⟩, by simpa using h.frames⟩
          intro hnot
          simp [hruns] at hnot
    · exact h
  · exact h

/-! ### The two sides -/

theorem advance_linkFits {n m : Node} (h : Attached n) (hc : m.control.node = n.control.node)
    (hhead : m.link.head = n.link.head) (hamp : m.link.amp = n.link.amp) (ha : m.link.address = n.link.address)
    (hm : m.link.mismatch = n.link.mismatch) (hf : m.link.frameInBlock = n.link.frameInBlock) : LinkFits m :=
  (h.congr hc hhead (hamp ▸ h.amp) ha hm (hf ▸ h.frames)).linkFits

theorem sendUpstream_link (n : Node) :
    (sendUpstream n).link = { n.link with headTx := (sendUpstream n).link.headTx } := by
  unfold sendUpstream
  split <;> simp [passiveUpstream, ownUpstream]

theorem formFrame_link (f : Option DownFrame) (n : Node) :
    (formFrame f n).link =
      { n.link with formed1 := (formFrame f n).link.formed1, lastHop := (formFrame f n).link.lastHop } := by
  simp [formFrame]

/-- R124: a period counts on, or begins the next block. -/
theorem countFrame_link (n : Node) : (countFrame n).link = { n.link with
    frameInBlock := if 32 ≤ n.link.frameInBlock + 1 then 0 else n.link.frameInBlock + 1
    block := if 32 ≤ n.link.frameInBlock + 1 then n.link.block + 1 else n.link.block } := by
  unfold countFrame
  split <;> simp_all

theorem doWork_control {w : Work} (n : Node) (h : w ≠ .starting) : (doWork w n).control = n.control := by
  have htake (l : LaneId) : (takeLane l n).control = n.control := by
    unfold takeLane perform
    repeat' split
    all_goals simp [(carryOut_sameOuter _ _ _).control]
  cases w with
  | liveTake => exact htake .live
  | settingTake => exact htake .setting
  | judge p => simp [doWork]
  | track => simp [doWork, trackStep]
  | guardStep => simp [doWork, Machine.guardStep]
  | ramp u => simp [doWork, rampStep]
  | complete k => exact (completeFade_onlyEq k n).control
  | shelf => simp only [doWork, formShelf]; split <;> simp
  | compose => simp only [doWork, composeLevels]; split <;> simp
  | starting => exact absurd rfl h

/-- R140: a code gives a working state. -/
theorem stateOfCode_spec (c : Code) : stateOfCode c = .halted ∨ stateOfCode c = .quiet ∨ stateOfCode c = .active := by
  cases c <;> simp [stateOfCode]

theorem countStarting_linkFits {n : Node} (h : LinkFits n) : LinkFits (countStarting n) := by
  unfold countStarting
  split
  · rename_i hs
    have hatt := h.attached (by simp [hs])
    obtain ⟨a, ha, hplace⟩ := hatt.place
    rw [hs] at hplace
    have hnode : ∀ s : NodeState, s = .starting ∨ s = .halted ∨ s = .quiet ∨ s = .active →
        s ≠ .detached ∧ s ≠ .passive ∧ hopCheckRuns s = true := by
      rintro s (rfl | rfl | rfl | rfl) <;> simp [hopCheckRuns]
    obtain ⟨h1, h2, h3⟩ := hnode (if 256 ≤ n.control.clearCount + 1 then stateOfCode n.link.accepted else .starting)
      (by split
          · exact .inr (stateOfCode_spec _)
          · exact .inl rfl)
    exact Attached.linkFits ⟨h1, hatt.head, h.amp, ⟨a, ha, by simp_all⟩, ⟨h.mismatch.1, fun hf => absurd (h3.symm.trans hf) (by simp)⟩,
      h.frames⟩
  · exact h

theorem ampLoss_linkFits {n : Node} (h : Attached n) : LinkFits (ampLoss n) :=
  (h.congr (m := ampLoss n) rfl rfl (Nat.zero_lt_succ 7) rfl rfl h.frames).linkFits

theorem ampMissed_linkFits {n : Node} (h : LinkFits n) : LinkFits (ampMissed n) := by
  unfold ampMissed
  split
  · rename_i m hm
    have hatt := h.attached_of_amp hm
    split
    · exact ampLoss_linkFits hatt
    · exact (hatt.congr (m := { n with link := { n.link with amp := .locked (m + 1), upNow := none } }) rfl rfl
        (Nat.not_le.mp ‹_›) rfl rfl h.frames).linkFits
  · exact h

theorem linkFits_kept : Kept LinkFits where
  reset n _ := by constructor <;> simp [assertReset, receiverFits]
  release _ h := ⟨h.lock, h.head, h.amp, h.silent, h.place, h.back, h.mismatch, h.frames⟩
  headRun n run r h hr hlt := by
    have hd := h.detached_of_hunting hr
    exact ⟨by simp [hd], by simpa [receiverFits] using hlt, h.amp, h.silent, h.place, h.back, h.mismatch, h.frames⟩
  firstLock _ _ _ h _ _ := firstLock_linkFits h
  relock _ _ _ h hr ha := relock_linkFits h hr ha
  headLoss _ h hl hb := headLoss_linkFits (h.attached_of_locked hl) hb
  headCount n m h hl hlt := by
    have hatt := h.attached_of_locked hl
    exact Attached.linkFits ⟨by simpa using hatt.node, ⟨m, by simp, hlt⟩, by simpa using h.amp,
      by simpa using hatt.place, by simpa using h.mismatch, by simpa using h.frames⟩
  upstream n h hl := by
    apply advance_linkFits (h.attached_of_locked hl) (by simp) <;> rw [sendUpstream_link]
  delays n h hl := by
    apply advance_linkFits (h.attached_of_locked hl) (by simp) <;> simp
  code _ c hop h := takeCode_linkFits c hop h
  hop _ _ h := hopCheck_linkFits h
  noHop _ h := setMismatch_zero_linkFits h
  cells _ _ _ h := h.congr (by simp) (by simp) (by simp)
  sources _ _ h := h.congr (by simp) (by simp) (by simp)
  form n f h hl := by
    apply advance_linkFits (h.attached_of_locked hl) (by simp) <;> rw [formFrame_link]
  count n h hl _ := by
    have hatt := h.attached_of_locked hl
    refine (hatt.congr (by simp) ?_ ?_ ?_ ?_ ?_).linkFits <;> rw [countFrame_link]
    · exact h.amp
    · dsimp only; split <;> omega
  choice _ _ h := h.congr rfl rfl id
  ampRun n run r h hl _ hlt := by
    have hatt := h.attached_of_locked hl
    exact (hatt.congr (by simp) (by simp) (by simpa [receiverFits] using hlt) (by simp) (by simp)
      (by simpa using h.frames)).linkFits
  ampLock n run h hl _ :=
    ((h.attached_of_locked hl).congr (m := ampLock n) rfl rfl (Nat.zero_lt_succ 3) rfl rfl h.frames).linkFits
  ampMissed _ h := ampMissed_linkFits h
  ampLoss _ _ h ha := ampLoss_linkFits (h.attached_of_amp ha)
  ampReceive n f h := by
    unfold ampReceive
    split
    · exact ((h.attached_of_amp ‹_›).congr (m := { n with link := { n.link with amp := .locked 0, upNow := some f } })
        rfl rfl (Nat.zero_lt_succ 3) rfl rfl h.frames).linkFits
    · exact h
  reply _ h := by unfold replyStarts; split <;> exact h.congr rfl rfl id
  work n w h hs _ := by
    have herase : LinkFits { n with boundary := n.boundary.erase w } :=
      h.congr rfl rfl fun hb => by simp [hb]
    by_cases hw : w = .starting
    · subst hw; exact countStarting_linkFits herase
    · exact herase.congr (doWork_control _ hw) (doWork_outer _ _).1 fun hb => (doWork_outer _ _).2.1.trans hb
  erase n w h := h.congr rfl rfl fun hb => by simp [hb]
  handOver n i h _ :=
    h.congr (handOver_onlyEq i n).control (handOver_onlyEq i n).link fun hb => (handOver_onlyEq i n).boundary.trans hb
  judge _ _ _ h _ := h.congr (by simp) (by simp) (by simp)

end Sys2Proof.Machine
end

section
/-! PROOFS. The law of the crossfade slots and the wait queue (R77, R83, R84, R89, R91). It is proved of an abstraction
of the EQ engine: each speaker's phase and current set, each slot's owner, the queue. An operation on the records and the
slots is one or two of four changes: a speaker outside a crossfade changes its place, a fading one its sets, a slot is
taken, a slot is left. -/

namespace Sys2Proof.Machine

open Function (update)

/-! ### The abstraction -/

/-- The law without its clause on free slots, which holds only between whole operations. -/
structure Seats (phase : Fin 24 → EqPhase) (current : Fin 24 → SetRef) (owner : Fin 8 → Option (Fin 24))
    (queue : List (Fin 24)) : Prop where
  waiting : ∀ k, k ∈ queue ↔ ∃ q, phase k = .waiting q
  nodup : queue.Nodup
  fading : ∀ k, (∃ t p, phase k = .fading t p) ↔ ∃ i, owner i = some k
  single : ∀ i j k, owner i = some k → owner j = some k → i = j
  queuedDiffers : ∀ k q, phase k = .waiting q → q ≠ current k
  targetDiffers : ∀ k t p, phase k = .fading t p → t ≠ current k ∧ p ≠ some t

def phaseOf (n : Node) (k : Fin 24) : EqPhase := n.eq.records[k].phase

def currentOf (n : Node) (k : Fin 24) : SetRef := n.eq.records[k].current

def ownerOf (n : Node) (i : Fin 8) : Option (Fin 24) := n.eq.slots[i].map (·.speaker)

/-- The law of the seats of a node. -/
abbrev seats (n : Node) : Prop := Seats (phaseOf n) (currentOf n) (ownerOf n) n.eq.waiting

/-- No slot stands free while a speaker waits. -/
def SeatsFull (n : Node) : Prop := n.eq.waiting ≠ [] → ∀ i, ownerOf n i ≠ none

theorem ownerOf_eq_some {n : Node} {i : Fin 8} {k : Fin 24} :
    ownerOf n i = some k ↔ ∃ h, n.eq.slots[i] = some h ∧ h.speaker = k := by
  simp [ownerOf]

theorem ownerOf_eq_none {n : Node} {i : Fin 8} : ownerOf n i = none ↔ n.eq.slots[i] = none := by
  simp [ownerOf]

theorem CrossfadesFit.seats {n : Node} (h : CrossfadesFit n) : seats n where
  waiting := h.waiting
  nodup := h.nodup
  fading k := by simpa only [ownerOf_eq_some, phaseOf] using h.fading k
  single i j k hi hj := by
    obtain ⟨a, ha, rfl⟩ := ownerOf_eq_some.mp hi
    obtain ⟨b, hb, hab⟩ := ownerOf_eq_some.mp hj
    exact h.single i j a b ha hb hab.symm
  queuedDiffers := h.queuedDiffers
  targetDiffers := h.targetDiffers

theorem CrossfadesFit.seatsFull {n : Node} (h : CrossfadesFit n) : SeatsFull n :=
  fun hw i hi => h.full hw i (ownerOf_eq_none.mp hi)

theorem crossfadesFit_of_seats {n : Node} (h : seats n) (hf : SeatsFull n)
    (hdisabled : ∀ k : Fin 24, n.tables.speakers[k].enabled = false → phaseOf n k = .idle)
    (hsettled : (n.control.node ≠ .detached ∧ audioRuns n.control.node = false) ∨ n.link.address = none →
      ∀ k, phaseOf n k = .idle)
    (hunlatched : n.link.address = none → n.control.node = .detached) : CrossfadesFit n where
  waiting := h.waiting
  nodup := h.nodup
  fading k := by simpa only [ownerOf_eq_some, phaseOf] using h.fading k
  single i j a b ha hb hab :=
    h.single i j a.speaker (ownerOf_eq_some.mpr ⟨a, ha, rfl⟩) (ownerOf_eq_some.mpr ⟨b, hb, hab.symm⟩)
  full hw i hi := hf hw i (ownerOf_eq_none.mpr hi)
  queuedDiffers := h.queuedDiffers
  targetDiffers := h.targetDiffers
  disabled := hdisabled
  settled := hsettled
  unlatched := hunlatched

/-! ### The four changes -/

namespace Seats

variable {phase : Fin 24 → EqPhase} {current : Fin 24 → SetRef} {owner : Fin 8 → Option (Fin 24)}
  {queue rest : List (Fin 24)} {x : Fin 24} {i : Fin 8} {c d : SetRef}

/-- A speaker outside a crossfade takes another place outside it, the queue holding it exactly when it waits. -/
theorem move (h : Seats phase current owner queue) (a : EqPhase) (hx : ∀ t p, phase x ≠ .fading t p)
    (ha : ∀ t p, a ≠ .fading t p) (hc : ∀ q, a = .waiting q → q ≠ c)
    (hmem : ∀ y, y ∈ rest ↔ (y = x ∧ ∃ q, a = .waiting q) ∨ (y ≠ x ∧ y ∈ queue)) (hnodup : rest.Nodup) :
    Seats (update phase x a) (update current x c) owner rest where
  waiting k := by
    rw [hmem]
    by_cases hk : k = x
    · subst hk; simp
    · simpa [hk] using h.waiting k
  nodup := hnodup
  fading k := by
    rw [← h.fading k]
    by_cases hk : k = x
    · subst hk; simp [ha, hx]
    · simp [hk]
  single := h.single
  queuedDiffers k q := by
    by_cases hk : k = x
    · subst hk; simpa using hc q
    · simpa [hk] using h.queuedDiffers k q
  targetDiffers k t p := by
    by_cases hk : k = x
    · subst hk; simp [ha]
    · simpa [hk] using h.targetDiffers k t p

/-- A fading speaker goes on fading in its slot, with other sets. -/
theorem refade (h : Seats phase current owner queue) {t u : SetRef} {p o : Option SetRef} (hx : phase x = .fading t p)
    (hu : u ≠ c) (ho : o ≠ some u) : Seats (update phase x (.fading u o)) (update current x c) owner queue where
  waiting k := by
    rw [h.waiting k]
    by_cases hk : k = x
    · subst hk; simp [hx]
    · simp [hk]
  nodup := h.nodup
  fading k := by
    rw [← h.fading k]
    by_cases hk : k = x
    · subst hk; simp [hx]
    · simp [hk]
  single := h.single
  queuedDiffers k q := by
    by_cases hk : k = x
    · subst hk; simp
    · simpa [hk] using h.queuedDiffers k q
  targetDiffers k t p := by
    by_cases hk : k = x
    · subst hk
      simp only [Function.update_self]
      rintro ⟨⟩
      exact ⟨hu, ho⟩
    · simpa [hk] using h.targetDiffers k t p

/-- A free slot is taken by a speaker outside a crossfade, which waits no longer. -/
theorem take (h : Seats phase current owner queue) (hx : ∀ t p, phase x ≠ .fading t p) (hi : owner i = none)
    (hd : d ≠ current x) (hmem : ∀ y, y ∈ rest ↔ y ≠ x ∧ y ∈ queue) (hnodup : rest.Nodup) :
    Seats (update phase x (.fading d none)) current (update owner i (some x)) rest where
  waiting k := by
    rw [hmem]
    by_cases hk : k = x
    · subst hk; simp
    · simpa [hk] using h.waiting k
  nodup := hnodup
  fading k := by
    by_cases hk : k = x
    · subst hk
      exact ⟨fun _ => ⟨i, by simp⟩, fun _ => ⟨d, none, by simp⟩⟩
    · rw [Function.update_of_ne hk, h.fading k]
      refine exists_congr fun j => ?_
      by_cases hj : j = i
      · subst hj; simp [hi, Ne.symm hk]
      · simp [hj]
  single a b k ha hb := by
    have free (j : Fin 8) (hj : owner j = some x) : False := by
      obtain ⟨t, p, hx'⟩ := (h.fading x).mpr ⟨j, hj⟩
      exact hx t p hx'
    by_cases hai : a = i <;> by_cases hbi : b = i
    · rw [hai, hbi]
    · subst hai
      simp only [Function.update_self, Option.some_inj] at ha
      rw [Function.update_of_ne hbi, ← ha] at hb
      exact (free b hb).elim
    · subst hbi
      simp only [Function.update_self, Option.some_inj] at hb
      rw [Function.update_of_ne hai, ← hb] at ha
      exact (free a ha).elim
    · rw [Function.update_of_ne hai] at ha
      rw [Function.update_of_ne hbi] at hb
      exact h.single a b k ha hb
  queuedDiffers k q := by
    by_cases hk : k = x
    · subst hk; simp
    · simpa [hk] using h.queuedDiffers k q
  targetDiffers k t p := by
    by_cases hk : k = x
    · subst hk
      simp only [Function.update_self]
      rintro ⟨⟩
      exact ⟨hd, by simp⟩
    · simpa [hk] using h.targetDiffers k t p

/-- A fading speaker leaves its slot and is idle. -/
theorem leave (h : Seats phase current owner queue) (hi : owner i = some x) :
    Seats (update phase x .idle) (update current x c) (update owner i none) queue where
  waiting k := by
    rw [h.waiting k]
    by_cases hk : k = x
    · subst hk
      obtain ⟨t, p, hx⟩ := (h.fading k).mpr ⟨i, hi⟩
      simp [hx]
    · simp [hk]
  nodup := h.nodup
  fading k := by
    by_cases hk : k = x
    · subst hk
      refine ⟨fun ⟨t, p, hx⟩ => by simp at hx, fun ⟨j, hj⟩ => ?_⟩
      by_cases hji : j = i
      · subst hji; simp at hj
      · rw [Function.update_of_ne hji] at hj
        exact absurd (h.single j i k hj hi) hji
    · rw [Function.update_of_ne hk, h.fading k]
      refine exists_congr fun j => ?_
      by_cases hj : j = i
      · subst hj; simp [hi, Ne.symm hk]
      · simp [hj]
  single a b k ha hb := by
    have old (j : Fin 8) (hj : update owner i none j = some k) : owner j = some k := by
      by_cases hji : j = i
      · subst hji; simp at hj
      · rwa [Function.update_of_ne hji] at hj
    exact h.single a b k (old a ha) (old b hb)
  queuedDiffers k q := by
    by_cases hk : k = x
    · subst hk; simp
    · simpa [hk] using h.queuedDiffers k q
  targetDiffers k t p := by
    by_cases hk : k = x
    · subst hk; simp
    · simpa [hk] using h.targetDiffers k t p

end Seats

/-! ### How the operations look in the abstraction -/

theorem phaseOf_modifyRecord (k : Fin 24) (f : EqRecord → EqRecord) (n : Node) :
    phaseOf (modifyRecord k f n) = update (phaseOf n) k (f n.eq.records[k]).phase := by
  funext j
  simp only [phaseOf, modifyRecord, modifyVec_at, Function.update_apply]
  split
  · rename_i h; subst h; rfl
  · rfl

theorem currentOf_modifyRecord (k : Fin 24) (f : EqRecord → EqRecord) (n : Node) :
    currentOf (modifyRecord k f n) = update (currentOf n) k (f n.eq.records[k]).current := by
  funext j
  simp only [currentOf, modifyRecord, modifyVec_at, Function.update_apply]
  split
  · rename_i h; subst h; rfl
  · rfl

theorem ownerOf_modifyRecord (k : Fin 24) (f : EqRecord → EqRecord) (n : Node) :
    ownerOf (modifyRecord k f n) = ownerOf n := by
  funext j
  simp only [ownerOf, modifyRecord]

theorem ownerOf_putSlot (i : Fin 8) (h : Option Held) (n : Node) :
    ownerOf (putSlot i h n) = update (ownerOf n) i (h.map (·.speaker)) := by
  funext j
  simp only [ownerOf, putSlot, putVec_at, Function.update_apply]
  split
  · rfl
  · rfl

theorem waiting_putSlot (i : Fin 8) (h : Option Held) (n : Node) : (putSlot i h n).eq.waiting = n.eq.waiting := by
  simp only [putSlot]

theorem waiting_modifyRecord (k : Fin 24) (f : EqRecord → EqRecord) (n : Node) :
    (modifyRecord k f n).eq.waiting = n.eq.waiting := by
  simp only [modifyRecord]

theorem record_putSlot (i : Fin 8) (h : Option Held) (n : Node) (k : Fin 24) :
    (putSlot i h n).eq.records[k] = n.eq.records[k] := by
  simp only [putSlot]

theorem phaseOf_putSlot (i : Fin 8) (h : Option Held) (n : Node) : phaseOf (putSlot i h n) = phaseOf n := by
  funext k
  rw [phaseOf, record_putSlot, phaseOf]

theorem currentOf_putSlot (i : Fin 8) (h : Option Held) (n : Node) : currentOf (putSlot i h n) = currentOf n := by
  funext k
  rw [currentOf, record_putSlot, currentOf]

theorem phaseOf_startFade (k : Fin 24) (i : Fin 8) (d : SetRef) (n : Node) :
    phaseOf (startFade k i d n) = update (phaseOf n) k (.fading d none) := by
  rw [startFade, phaseOf_modifyRecord, phaseOf_putSlot]

theorem currentOf_startFade (k : Fin 24) (i : Fin 8) (d : SetRef) (n : Node) :
    currentOf (startFade k i d n) = currentOf n := by
  rw [startFade, currentOf_modifyRecord, currentOf_putSlot, record_putSlot]
  exact Function.update_eq_self k (currentOf n)

theorem ownerOf_startFade (k : Fin 24) (i : Fin 8) (d : SetRef) (n : Node) :
    ownerOf (startFade k i d n) = update (ownerOf n) i (some k) := by
  rw [startFade, ownerOf_modifyRecord, ownerOf_putSlot]
  rfl

theorem waiting_startFade (k : Fin 24) (i : Fin 8) (d : SetRef) (n : Node) :
    (startFade k i d n).eq.waiting = n.eq.waiting := by
  rw [startFade, waiting_modifyRecord, waiting_putSlot]

/-- Another queue leaves the records and the slots as they are. -/
theorem phaseOf_queue (w : List (Fin 24)) (n : Node) : phaseOf { n with eq := { n.eq with waiting := w } } = phaseOf n :=
  rfl

theorem currentOf_queue (w : List (Fin 24)) (n : Node) :
    currentOf { n with eq := { n.eq with waiting := w } } = currentOf n := rfl

theorem ownerOf_queue (w : List (Fin 24)) (n : Node) : ownerOf { n with eq := { n.eq with waiting := w } } = ownerOf n :=
  rfl

theorem phaseOf_raise (e : Event) (n : Node) : phaseOf (raise e n) = phaseOf n := by
  funext k
  rw [phaseOf, raise_eq, phaseOf]

theorem currentOf_raise (e : Event) (n : Node) : currentOf (raise e n) = currentOf n := by
  funext k
  rw [currentOf, raise_eq, currentOf]

theorem ownerOf_raise (e : Event) (n : Node) : ownerOf (raise e n) = ownerOf n := by
  funext k
  rw [ownerOf, raise_eq, ownerOf]

theorem phaseOf_congr {n m : Node} (h : m.eq.records = n.eq.records) : phaseOf m = phaseOf n := by
  unfold phaseOf; rw [h]

theorem currentOf_congr {n m : Node} (h : m.eq.records = n.eq.records) : currentOf m = currentOf n := by
  unfold currentOf; rw [h]

theorem ownerOf_congr {n m : Node} (h : m.eq.slots = n.eq.slots) : ownerOf m = ownerOf n := by
  unfold ownerOf; rw [h]

/-- R79, R84: a crossfade that starts in a free slot. -/
theorem startFade_seats {n : Node} {k : Fin 24} {i : Fin 8} {d : SetRef} {queue : List (Fin 24)}
    (h : Seats (phaseOf n) (currentOf n) (ownerOf n) queue) (hk : ∀ t p, phaseOf n k ≠ .fading t p)
    (hi : ownerOf n i = none) (hd : d ≠ currentOf n k) (hmem : ∀ y, y ∈ n.eq.waiting ↔ y ≠ k ∧ y ∈ queue)
    (hnodup : n.eq.waiting.Nodup) : seats (startFade k i d n) := by
  unfold seats
  rw [phaseOf_startFade, currentOf_startFade, ownerOf_startFade, waiting_startFade]
  exact h.take hk hi hd hmem hnodup

/-- R84: what is left of the law after a slot has been left is the law again after it has been handed over. -/
theorem handOver_seats {n : Node} {i : Fin 8} (h : seats n) (hi : ownerOf n i = none)
    (hrest : n.eq.waiting ≠ [] → ∀ j, j ≠ i → ownerOf n j ≠ none) :
    seats (handOver i n) ∧ SeatsFull (handOver i n) := by
  unfold handOver
  rw [ownerOf_eq_none.mp hi]
  cases hw : n.eq.waiting with
  | nil => exact ⟨h, fun hne => absurd hw hne⟩
  | cons k rest =>
    obtain ⟨q, hq⟩ := (h.waiting k).mp (by simp [hw])
    have hnodup := h.nodup
    rw [hw, List.nodup_cons] at hnodup
    have hnot : ∀ t p, phaseOf n k ≠ .fading t p := by simp [hq]
    have hmatch : n.eq.records[k].phase = .waiting q := hq
    simp only [hmatch]
    constructor
    · refine startFade_seats (queue := n.eq.waiting) h hnot hi (h.queuedDiffers k q hq) ?_
        hnodup.2
      intro y
      rw [hw, List.mem_cons]
      constructor
      · intro hy; exact ⟨fun e => hnodup.1 (e ▸ hy), .inr hy⟩
      · rintro ⟨hne, hy⟩; exact hy.resolve_left hne
    · intro _ j
      rw [ownerOf_startFade, Function.update_apply]
      split
      · simp
      · exact hrest (by simp [hw]) j ‹_›

/-! ### The operations of the EQ engine -/

/-- The law of the seats between whole operations. -/
def SeatsLaw (n : Node) : Prop := seats n ∧ SeatsFull n

theorem SeatsLaw.congr {n m : Node} (h : SeatsLaw n) (hr : m.eq.records = n.eq.records) (hs : m.eq.slots = n.eq.slots)
    (hw : m.eq.waiting = n.eq.waiting) : SeatsLaw m := by
  unfold SeatsLaw seats SeatsFull
  rw [phaseOf_congr hr, currentOf_congr hr, ownerOf_congr hs, hw]
  exact h

/-- An operation on one speaker's record alone that leaves it outside a crossfade. -/
theorem move_law {n m : Node} {k : Fin 24} {a : EqPhase} {c : SetRef} (h : SeatsLaw n)
    (hphase : phaseOf m = update (phaseOf n) k a) (hcurrent : currentOf m = update (currentOf n) k c)
    (howner : ownerOf m = ownerOf n) (hk : ∀ t p, phaseOf n k ≠ .fading t p) (ha : ∀ t p, a ≠ .fading t p)
    (hc : ∀ q, a = .waiting q → q ≠ c)
    (hmem : ∀ y, y ∈ m.eq.waiting ↔ (y = k ∧ ∃ q, a = .waiting q) ∨ (y ≠ k ∧ y ∈ n.eq.waiting))
    (hnodup : m.eq.waiting.Nodup) (hfull : m.eq.waiting ≠ [] → ∀ i, ownerOf n i ≠ none) : SeatsLaw m := by
  unfold SeatsLaw seats SeatsFull
  rw [hphase, hcurrent, howner]
  exact ⟨h.1.move a hk ha hc hmem hnodup, hfull⟩

/-- R90: the current set of an idle speaker is free. -/
theorem modifyRecord_idle_law {n : Node} {k : Fin 24} {f : EqRecord → EqRecord} (h : SeatsLaw n)
    (hk : phaseOf n k = .idle) (hf : (f n.eq.records[k]).phase = .idle) : SeatsLaw (modifyRecord k f n) := by
  have hphase : phaseOf (modifyRecord k f n) = update (phaseOf n) k .idle := by rw [phaseOf_modifyRecord, hf]
  refine move_law h hphase (currentOf_modifyRecord k f n) (ownerOf_modifyRecord k f n)
    (by simp [hk]) (by simp) (by simp) (fun y => ?_) (by rw [waiting_modifyRecord]; exact h.1.nodup)
    (by rw [waiting_modifyRecord]; exact h.2)
  have hnot : k ∉ n.eq.waiting := fun hm => by
    obtain ⟨q, hq⟩ := (h.1.waiting k).mp hm
    simp [hk] at hq
  rw [waiting_modifyRecord]
  constructor
  · intro hy; exact .inr ⟨fun e => hnot (e ▸ hy), hy⟩
  · rintro (⟨-, q, ⟨⟩⟩ | ⟨-, hy⟩)
    exact hy

/-- R80, R89: a waiting speaker leaves the queue and is idle. -/
theorem unqueue_law {n : Node} {k : Fin 24} {q : SetRef} {f : EqRecord → EqRecord} (h : SeatsLaw n)
    (hk : phaseOf n k = .waiting q) (hf : ∀ r, (f r).phase = .idle) :
    SeatsLaw (modifyRecord k f { n with eq := { n.eq with waiting := n.eq.waiting.filter (· ≠ k) } }) := by
  refine move_law (k := k) (a := .idle) (c := (f n.eq.records[k]).current) h ?_ ?_ ?_ (by simp [hk]) (by simp) (by simp)
    (fun y => ?_) ?_ (fun hne => h.2 fun e => hne ?_)
  · rw [phaseOf_modifyRecord, hf, phaseOf_queue]
  · rw [currentOf_modifyRecord, currentOf_queue]
  · rw [ownerOf_modifyRecord, ownerOf_queue]
  · rw [waiting_modifyRecord]
    simp [and_comm]
  · rw [waiting_modifyRecord]
    exact h.1.nodup.filter _
  · rw [waiting_modifyRecord]
    simp [e]

/-- R84, R86, R89: a fading speaker leaves its slot, which passes on. -/
theorem release_law {n : Node} {k : Fin 24} {i : Fin 8} {f : EqRecord → EqRecord} (h : SeatsLaw n)
    (hi : ownerOf n i = some k) (hf : (f n.eq.records[k]).phase = .idle) :
    SeatsLaw (releaseSlot i (modifyRecord k f n)) := by
  have howner : ownerOf (putSlot i none (modifyRecord k f n)) = update (ownerOf n) i none := by
    rw [ownerOf_putSlot, ownerOf_modifyRecord]
    rfl
  refine handOver_seats ?_ ?_ ?_
  · have hleave := h.1.leave (c := (f n.eq.records[k]).current) hi
    unfold seats
    rw [phaseOf_putSlot, currentOf_putSlot, howner, waiting_putSlot, waiting_modifyRecord, phaseOf_modifyRecord,
      currentOf_modifyRecord, hf]
    exact hleave
  · rw [howner, Function.update_self]
  · intro hw j hj
    rw [waiting_putSlot, waiting_modifyRecord] at hw
    rw [howner, Function.update_of_ne hj]
    exact h.2 hw j

theorem freeSlot_some {n : Node} {i : Fin 8} (h : freeSlot n = some i) : ownerOf n i = none := by
  have := List.find?_some h
  exact ownerOf_eq_none.mpr (Option.isNone_iff_eq_none.mp this)

theorem freeSlot_none {n : Node} (h : freeSlot n = none) (i : Fin 8) : ownerOf n i ≠ none := by
  have := List.find?_eq_none.mp h i (List.mem_finRange i)
  exact fun hi => this (Option.isNone_iff_eq_none.mpr (ownerOf_eq_none.mp hi))

theorem slotOf_some {n : Node} {k : Fin 24} {i : Fin 8} (h : slotOf n k = some i) : ownerOf n i = some k := by
  have := List.find?_some h
  split at this
  · rename_i g hg
    exact ownerOf_eq_some.mpr ⟨g, hg, by simpa using this⟩
  · cases this

theorem slotOf_none {n : Node} {k : Fin 24} (h : slotOf n k = none) (i : Fin 8) : ownerOf n i ≠ some k := by
  intro hi
  obtain ⟨g, hg, hk⟩ := ownerOf_eq_some.mp hi
  have := List.find?_eq_none.mp h i (List.mem_finRange i)
  rw [hg] at this
  simp [hk] at this

/-- R79, R80, R81: a request in QUIET or ACTIVE moves its own speaker alone. -/
theorem requestByState_law {n : Node} {k : Fin 24} {d : SetRef} (h : SeatsLaw n) :
    SeatsLaw (requestByState k d n) := by
  unfold requestByState
  split
  · rename_i hk
    have hk : phaseOf n k = .idle := hk
    split
    · exact h
    · rename_i hd
      split
      · rename_i i hi
        have hfree := freeSlot_some hi
        have hw : n.eq.waiting = [] := by
          by_contra hne
          exact h.2 hne i hfree
        refine ⟨startFade_seats h.1 (by simp [hk]) hfree hd (by simp [hw]) (by simp [hw]), fun hne => ?_⟩
        rw [waiting_startFade] at hne
        exact absurd hw hne
      · rename_i hnone
        have hnot : k ∉ n.eq.waiting := fun hm => by
          obtain ⟨q, hq⟩ := (h.1.waiting k).mp hm
          simp [hk] at hq
        refine move_law (k := k) (a := .waiting d) (c := currentOf n k) h ?_ ?_ ?_ (by simp [hk]) (by simp)
          (by rintro q ⟨⟩; exact hd) (fun y => ?_) ?_ fun _ => freeSlot_none hnone
        · rw [joinQueue, phaseOf_raise, phaseOf_modifyRecord, phaseOf_queue]
        · rw [joinQueue, currentOf_raise, currentOf_modifyRecord, currentOf_queue, currentOf]
        · rw [joinQueue, ownerOf_raise, ownerOf_modifyRecord, ownerOf_queue]
        · simp only [joinQueue, raise_eq, waiting_modifyRecord, List.mem_append, List.mem_singleton]
          by_cases hy : y = k <;> simp [hy, hnot]
        · simp only [joinQueue, raise_eq, waiting_modifyRecord]
          exact List.nodup_append.mpr ⟨h.1.nodup, by simp, fun a ha b hb e => by
            rw [List.mem_singleton.mp hb] at e
            exact hnot (e ▸ ha)⟩
  · rename_i q hk
    have hk : phaseOf n k = .waiting q := hk
    split
    · exact unqueue_law h hk fun _ => rfl
    · rename_i hd
      have hmem : k ∈ n.eq.waiting := (h.1.waiting k).mpr ⟨q, hk⟩
      refine move_law (k := k) (a := .waiting d) (c := currentOf n k) h (phaseOf_modifyRecord k _ _)
        (currentOf_modifyRecord k _ _) (ownerOf_modifyRecord k _ _) (by simp [hk]) (by simp)
        (by rintro q ⟨⟩; exact hd) (fun y => ?_) (by rw [waiting_modifyRecord]; exact h.1.nodup)
        (by rw [waiting_modifyRecord]; exact h.2)
      rw [waiting_modifyRecord]
      by_cases hy : y = k <;> simp [hy, hmem]
  · rename_i t p hk
    have hk : phaseOf n k = .fading t p := hk
    have hsets := h.1.refade (c := currentOf n k) (o := if d = t then none else some d) hk
      (h.1.targetDiffers k t p hk).1 (by split <;> simp_all)
    unfold SeatsLaw seats SeatsFull
    rw [phaseOf_modifyRecord, currentOf_modifyRecord, ownerOf_modifyRecord, waiting_modifyRecord]
    exact ⟨hsets, h.2⟩

/-- A request moves its own speaker alone. -/
theorem requestByState_phase_of_ne {n : Node} {j k : Fin 24} {d : SetRef} (hne : j ≠ k) :
    phaseOf (requestByState k d n) j = phaseOf n j := by
  unfold requestByState
  repeat' split
  · rfl
  · rw [phaseOf_startFade, Function.update_of_ne hne]
  · rw [joinQueue, phaseOf_raise, phaseOf_modifyRecord, Function.update_of_ne hne, phaseOf_queue]
  · rw [leaveQueue, phaseOf_modifyRecord, Function.update_of_ne hne, phaseOf_queue]
  all_goals rw [phaseOf_modifyRecord, Function.update_of_ne hne]

/-- R89: a disabled speaker leaves its EQ activity. -/
theorem disableEq_law {n : Node} {k : Fin 24} (h : SeatsLaw n) : SeatsLaw (disableEq k n) := by
  unfold disableEq
  split
  · exact modifyRecord_idle_law h ‹_› rfl
  · exact unqueue_law h ‹_› fun _ => rfl
  · rename_i t p hk
    split
    · exact release_law h (slotOf_some ‹_›) rfl
    · rename_i hnone
      obtain ⟨i, hi⟩ := (h.1.fading k).mp ⟨t, p, hk⟩
      exact absurd hi (slotOf_none hnone i)

theorem completeRecord_fading {r : EqRecord} {t : SetRef} {p : Option SetRef} (h : r.phase = .fading t p) :
    completeRecord r = { r with phase := .idle, current := t, running := r.incoming, incoming := zeroChain } := by
  simp only [completeRecord, h]

theorem completeRecord_idle {r : EqRecord} (h : r.phase = .idle) : completeRecord r = r := by
  simp only [completeRecord, h]

/-- R86: a crossfade with a pending set begins the next one in its slot, and one without leaves it. -/
theorem completeFade_law {n : Node} {i : Fin 8} (h : SeatsLaw n) : SeatsLaw (completeFade i n) := by
  unfold completeFade
  split
  · split
    · rename_i g hg
      have howner : ownerOf n i = some g.speaker := ownerOf_eq_some.mpr ⟨g, hg, rfl⟩
      split
      · rename_i t p hk
        have hk : phaseOf n g.speaker = .fading t (some p) := hk
        have hdiffers : p ≠ t := fun e => (h.1.targetDiffers _ t _ hk).2 (by rw [e])
        have hsets := h.1.refade (c := t) (o := none) hk hdiffers (by simp)
        unfold SeatsLaw seats SeatsFull
        rw [phaseOf_startFade, currentOf_startFade, ownerOf_startFade, waiting_startFade, phaseOf_modifyRecord,
          currentOf_modifyRecord, ownerOf_modifyRecord, waiting_modifyRecord, Function.update_idem, ← howner,
          Function.update_eq_self, completeRecord_fading hk]
        exact ⟨hsets, h.2⟩
      · rename_i t hk
        refine release_law h howner ?_
        rw [completeRecord_fading hk]
      · exact h
      · exact h
    · exact h
  · exact h

/-! ### Who is idle -/

/-- No speaker leaves IDLE. -/
def IdleKept (n m : Node) : Prop := ∀ j, phaseOf n j = .idle → phaseOf m j = .idle

theorem modifyRecord_idleKept {n : Node} {k : Fin 24} {f : EqRecord → EqRecord}
    (hf : phaseOf n k = .idle → (f n.eq.records[k]).phase = .idle) : IdleKept n (modifyRecord k f n) := by
  intro j hj
  rw [phaseOf_modifyRecord]
  by_cases hk : j = k
  · subst hk; simpa using hf hj
  · simpa [hk] using hj

theorem startFade_idleKept {n : Node} {k : Fin 24} {i : Fin 8} {d : SetRef} (hk : phaseOf n k ≠ .idle) :
    IdleKept n (startFade k i d n) := by
  intro j hj
  have hne : j ≠ k := fun e => hk (e ▸ hj)
  rw [phaseOf_startFade]
  simpa [hne] using hj

theorem handOver_idleKept (i : Fin 8) (n : Node) : IdleKept n (handOver i n) := by
  unfold handOver
  split
  · split
    · rename_i k rest _ _ _ q hq
      exact startFade_idleKept (n := { n with eq := { n.eq with waiting := rest } }) (fun e => by
        have hq : phaseOf n k = .waiting q := hq
        rw [phaseOf_queue, hq] at e
        cases e)
    · exact fun _ => id
    · exact fun _ => id
  · exact fun _ => id
  · exact fun _ => id

theorem releaseSlot_idleKept (i : Fin 8) (n : Node) : IdleKept n (releaseSlot i n) := by
  intro j hj
  exact handOver_idleKept i (putSlot i none n) j (by rwa [phaseOf_putSlot])

theorem disableEq_idleKept (k : Fin 24) (n : Node) : IdleKept n (disableEq k n) := by
  unfold disableEq
  repeat' split
  · exact modifyRecord_idleKept fun _ => rfl
  · exact modifyRecord_idleKept (n := { n with eq := { n.eq with waiting := n.eq.waiting.filter (· ≠ k) } }) fun _ => rfl
  · exact fun j hj => releaseSlot_idleKept _ _ j (modifyRecord_idleKept (fun _ => rfl) j hj)
  · exact modifyRecord_idleKept fun _ => rfl

/-- R89: a disabled speaker is IDLE. -/
theorem disableEq_idle (k : Fin 24) (n : Node) : phaseOf (disableEq k n) k = .idle := by
  have hset (m : Node) : phaseOf (modifyRecord k settleRecord m) k = .idle := by
    rw [phaseOf_modifyRecord, Function.update_self, settleRecord]
  unfold disableEq
  repeat' split
  · exact hset _
  · exact hset _
  · exact releaseSlot_idleKept _ _ k (hset _)
  · exact hset _

theorem completeFade_idleKept (i : Fin 8) (n : Node) : IdleKept n (completeFade i n) := by
  have hcomplete {k : Fin 24} : IdleKept n (modifyRecord k completeRecord n) :=
    modifyRecord_idleKept fun hk => by rw [completeRecord_idle hk]; exact hk
  unfold completeFade
  split
  · split
    · rename_i g _
      split
      · rename_i t p hk
        intro j hj
        have hne : j ≠ g.speaker := fun e => by
          have hk : phaseOf n g.speaker = .fading t (some p) := hk
          rw [e, hk] at hj
          cases hj
        rw [phaseOf_startFade, Function.update_of_ne hne]
        exact hcomplete j hj
      · exact fun j hj => releaseSlot_idleKept _ _ j (hcomplete j hj)
      · exact fun _ => id
      · exact fun _ => id
    · exact fun _ => id
  · exact fun _ => id

/-! ### What a law of the crossfades reads -/

theorem CrossfadesFit.law {n : Node} (h : CrossfadesFit n) : SeatsLaw n := ⟨h.seats, h.seatsFull⟩

/-- The law reads the seats, the enabled speakers, the node state and the address. -/
theorem CrossfadesFit.congr {n m : Node} (h : CrossfadesFit n) (hphase : phaseOf m = phaseOf n)
    (hcurrent : currentOf m = currentOf n) (howner : ownerOf m = ownerOf n) (hwait : m.eq.waiting = n.eq.waiting)
    (hon : ∀ k : Fin 24, m.tables.speakers[k].enabled = n.tables.speakers[k].enabled)
    (hnode : m.control.node = n.control.node) (haddress : m.link.address = n.link.address) : CrossfadesFit m := by
  refine crossfadesFit_of_seats ?_ ?_ (fun k hk => ?_) ?_ ?_
  · unfold Machine.seats
    rw [hphase, hcurrent, howner, hwait]
    exact h.seats
  · unfold SeatsFull
    rw [hwait, howner]
    exact h.seatsFull
  · rw [hphase]
    exact h.disabled k ((hon k).symm.trans hk)
  · rw [hnode, haddress, hphase]
    exact h.settled
  · rw [hnode, haddress]
    exact h.unlatched

/-- An operation that leaves the EQ state, the tables, the node state and the address alone. -/
theorem CrossfadesFit.congr_eq {n m : Node} (h : CrossfadesFit n) (heq : m.eq = n.eq) (ht : m.tables = n.tables)
    (hc : m.control = n.control) (ha : m.link.address = n.link.address) : CrossfadesFit m :=
  h.congr (phaseOf_congr (by rw [heq])) (currentOf_congr (by rw [heq])) (ownerOf_congr (by rw [heq])) (by rw [heq])
    (fun k => by rw [ht]) (by rw [hc]) ha

/-- A move of the node state that leaves the EQ state and the tables alone, by a node with its address latched. -/
theorem CrossfadesFit.moved {n m : Node} (h : CrossfadesFit n) (heq : m.eq = n.eq) (ht : m.tables = n.tables)
    (ha : m.link.address ≠ none)
    (hidle : m.control.node ≠ .detached → audioRuns m.control.node = false → ∀ k, phaseOf n k = .idle) :
    CrossfadesFit m := by
  have hphase : phaseOf m = phaseOf n := phaseOf_congr (by rw [heq])
  have hlaw : SeatsLaw m := h.law.congr (by rw [heq]) (by rw [heq]) (by rw [heq])
  refine crossfadesFit_of_seats hlaw.1 hlaw.2 (fun k hk => ?_) (fun hs => ?_) fun hn => absurd hn ha
  · rw [hphase]
    exact h.disabled k (by rwa [ht] at hk)
  · rw [hphase]
    obtain ⟨hd, hr⟩ := hs.resolve_right ha
    exact hidle hd hr

/-- With every speaker IDLE, every slot free and nobody waiting, the law holds. -/
theorem crossfadesFit_idle {n : Node} (hidle : ∀ k, phaseOf n k = .idle) (hfree : ∀ i, ownerOf n i = none)
    (hw : n.eq.waiting = []) (hunlatched : n.link.address = none → n.control.node = .detached) : CrossfadesFit n :=
  crossfadesFit_of_seats
    { waiting := by simp [hw, hidle]
      nodup := by simp [hw]
      fading := by simp [hidle, hfree]
      single := by simp [hfree]
      queuedDiffers := by simp [hidle]
      targetDiffers := by simp [hidle] }
    (fun hne => absurd hw hne) (fun k _ => hidle k) (fun _ => hidle) hunlatched

/-- R91: a settled EQ engine. -/
theorem crossfadesFit_settled {n : Node} {e : EqEngine} (he : n.eq = settleEq e)
    (hunlatched : n.link.address = none → n.control.node = .detached) : CrossfadesFit n := by
  refine crossfadesFit_idle (fun k => ?_) (fun i => ?_) (by rw [he]; rfl) hunlatched
  · rw [phaseOf, he, settleEq, mapVec_at]
    rfl
  · rw [ownerOf, he, settleEq, replicate_at]
    rfl

theorem crossfadesFit_resetEq {n : Node} (he : n.eq = {})
    (hunlatched : n.link.address = none → n.control.node = .detached) : CrossfadesFit n := by
  refine crossfadesFit_idle (fun k => ?_) (fun i => ?_) (by rw [he]) hunlatched
  · rw [phaseOf, he, replicate_at]
  · rw [ownerOf, he, replicate_at]
    rfl

/-! ### A node in service -/

/-- The law in a node outside DETACHED, where the messages and the works act. -/
def Crossing (n : Node) : Prop := CrossfadesFit n ∧ n.control.node ≠ .detached

namespace Crossing

variable {n m : Node}

theorem latched (h : Crossing n) : n.link.address ≠ none := fun ha => h.2 (h.1.unlatched ha)

/-- A speaker that is disabled or in a node that forms no audio is IDLE. -/
theorem idle (h : Crossing n) (k : Fin 24) (hk : (n.tables.speakers[k].enabled && audioRuns n.control.node) = false) :
    phaseOf n k = .idle := by
  rcases Bool.and_eq_false_iff.mp hk with hoff | hsilent
  · exact h.1.disabled k hoff
  · exact h.1.settled (.inl ⟨h.2, hsilent⟩) k

/-- What follows for a node of the same control and address once the seats, the disabled speakers and the silent states
are seen to. -/
theorem of_law (h : Crossing n) (hlaw : SeatsLaw m) (hc : m.control = n.control) (hl : m.link = n.link)
    (hoff : ∀ k : Fin 24, m.tables.speakers[k].enabled = false → phaseOf m k = .idle)
    (hsilent : audioRuns n.control.node = false → IdleKept n m) : Crossing m := by
  refine ⟨crossfadesFit_of_seats hlaw.1 hlaw.2 hoff ?_ ?_, by rw [hc]; exact h.2⟩
  · rintro (⟨-, hs⟩ | hn)
    · rw [hc] at hs
      exact fun k => hsilent hs k (h.1.settled (.inl ⟨h.2, hs⟩) k)
    · rw [hl] at hn
      exact absurd hn h.latched
  · rw [hl]
    exact fun hn => absurd hn h.latched

/-- The same for an operation on the EQ state that takes no speaker out of IDLE. -/
theorem of_idleKept (h : Crossing n) (hlaw : SeatsLaw m) (ho : OnlyEq n m) (hidle : IdleKept n m) : Crossing m :=
  h.of_law hlaw ho.control ho.link (fun k hk => hidle k (h.1.disabled k (by rwa [ho.tables] at hk))) fun _ => hidle

end Crossing

theorem request_crossing {k : Fin 24} {n : Node} (h : Crossing n) : Crossing (request k n) := by
  cases hk : n.tables.speakers[k].enabled && audioRuns n.control.node with
  | false =>
    have hidle := h.idle k hk
    rw [request, if_neg (by rw [hk]; decide), requestAtOnce]
    exact h.of_idleKept (modifyRecord_idle_law h.1.law hidle hidle) (modifyRecord_onlyEq _ _ _)
      (modifyRecord_idleKept fun _ => hidle)
  | true =>
    obtain ⟨hon, hruns⟩ := Bool.and_eq_true_iff.mp hk
    rw [request, if_pos hk]
    have ho := requestByState_onlyEq k (desiredSet n k) n
    refine h.of_law (requestByState_law h.1.law) ho.control ho.link (fun j hj => ?_) fun hs => by simp [hruns] at hs
    rw [ho.tables] at hj
    have hne : j ≠ k := fun e => by rw [e, hon] at hj; cases hj
    rw [requestByState_phase_of_ne hne]
    exact h.1.disabled j hj

theorem completeFade_crossing (i : Fin 8) {n : Node} (h : Crossing n) : Crossing (completeFade i n) :=
  h.of_idleKept (completeFade_law h.1.law) (completeFade_onlyEq i n) (completeFade_idleKept i n)

theorem zeroShelfWhenOff_phase (k : Fin 24) (n : Node) : phaseOf (zeroShelfWhenOff k n) = phaseOf n := by
  unfold zeroShelfWhenOff
  split
  · rw [phaseOf_modifyRecord]
    exact Function.update_eq_self k (phaseOf n)
  · rfl

theorem zeroShelfWhenOff_current (k : Fin 24) (n : Node) : currentOf (zeroShelfWhenOff k n) = currentOf n := by
  unfold zeroShelfWhenOff
  split
  · rw [currentOf_modifyRecord]
    exact Function.update_eq_self k (currentOf n)
  · rfl

theorem zeroShelfWhenOff_owner (k : Fin 24) (n : Node) : ownerOf (zeroShelfWhenOff k n) = ownerOf n := by
  unfold zeroShelfWhenOff
  split
  · rw [ownerOf_modifyRecord]
  · rfl

theorem zeroShelfWhenOff_waiting (k : Fin 24) (n : Node) : (zeroShelfWhenOff k n).eq.waiting = n.eq.waiting := by
  unfold zeroShelfWhenOff
  split
  · rw [waiting_modifyRecord]
  · rfl

theorem zeroShelfWhenOff_law {k : Fin 24} {n : Node} (h : SeatsLaw n) : SeatsLaw (zeroShelfWhenOff k n) := by
  unfold SeatsLaw seats SeatsFull
  rw [zeroShelfWhenOff_phase, zeroShelfWhenOff_current, zeroShelfWhenOff_owner, zeroShelfWhenOff_waiting]
  exact h

/-- R90: a speaker that a write enables begins on its desired set. -/
theorem enableSpeaker_crossing {k : Fin 24} {n : Node} (h : Crossing n) (hk : phaseOf n k = .idle) :
    Crossing (enableSpeaker k n) := by
  unfold enableSpeaker requestAtOnce
  have hphase : phaseOf { n with eq := { n.eq with flatShelf := putVec k true n.eq.flatShelf } } = phaseOf n :=
    phaseOf_congr (by simp)
  have hm : Crossing { n with eq := { n.eq with flatShelf := putVec k true n.eq.flatShelf } } :=
    ⟨h.1.congr hphase (currentOf_congr (by simp)) (ownerOf_congr (by simp)) (by simp) (fun _ => by simp) (by simp)
      (by simp), h.2⟩
  rw [← hphase] at hk
  exact hm.of_idleKept (modifyRecord_idle_law hm.1.law hk hk) (modifyRecord_onlyEq _ _ _)
    (modifyRecord_idleKept fun _ => hk)

/-- R29, R89: a speaker element is written into the table, and a speaker that the write disables leaves its EQ activity. -/
theorem writtenSpeaker_crossing {k : Fin 24} {new : Speaker} {n w : Node} (h : Crossing n) (hlaw : SeatsLaw w)
    (hphase : phaseOf w = phaseOf n) (hc : w.control = n.control) (hl : w.link = n.link)
    (ht : w.tables.speakers = putVec k new n.tables.speakers) :
    Crossing (if n.tables.speakers[k].enabled && !new.enabled then disableSpeaker k w else w) := by
  have hother {j : Fin 24} (hj : j ≠ k) (hoff : w.tables.speakers[j].enabled = false) : phaseOf n j = .idle := by
    rw [ht, putVec_at, if_neg hj] at hoff
    exact h.1.disabled j hoff
  split
  · have hd := disableEq_onlyEq k (disableLevels k w)
    have hlevels : phaseOf (disableLevels k w) = phaseOf n := (phaseOf_congr (by simp)).trans hphase
    have hkept : IdleKept n (disableSpeaker k w) := fun j hj =>
      disableEq_idleKept k _ j (by rw [hlevels]; exact hj)
    refine h.of_law (disableEq_law (hlaw.congr (by simp) (by simp) (by simp)))
      (hd.control.trans (by simpa using hc)) (hd.link.trans (by simpa using hl)) (fun j hj => ?_) fun _ => hkept
    by_cases hjk : j = k
    · rw [hjk]
      exact disableEq_idle k _
    · rw [disableSpeaker, hd.tables, disableLevels_tables] at hj
      exact hkept j (hother hjk hj)
  · rename_i hstays
    refine h.of_law hlaw hc hl (fun j hj => ?_) fun _ j hj => (congrFun hphase j).trans hj
    rw [hphase]
    by_cases hjk : j = k
    · rw [ht, hjk, putVec_at, if_pos rfl] at hj
      rw [hj] at hstays
      rw [hjk]
      exact h.1.disabled k (by simpa only [Bool.not_false, Bool.and_true, Bool.not_eq_true] using hstays)
    · exact hother hjk hj

theorem writeSpeaker_crossing {mask : Nat} {k : Fin 24} {new : Speaker} {n : Node} (h : Crossing n) :
    Crossing (writeSpeaker mask k new n) := by
  have ho := zeroShelfWhenOff_onlyEq k (setTables (fun t => { t with speakers := putVec k new t.speakers }) n)
  have hphase : phaseOf (zeroShelfWhenOff k (setTables (fun t => { t with speakers := putVec k new t.speakers }) n)) =
      phaseOf n := (zeroShelfWhenOff_phase k _).trans (phaseOf_congr (by simp))
  have hwritten := writtenSpeaker_crossing (k := k) (new := new) h
    (zeroShelfWhenOff_law (h.1.law.congr (by simp) (by simp) (by simp))) hphase (ho.control.trans (by simp))
    (ho.link.trans (by simp)) (by rw [ho.tables]; simp)
  unfold writeSpeaker speakerRequest
  dsimp only
  split
  · rename_i hon
    obtain ⟨hoff, -⟩ := Bool.and_eq_true_iff.mp hon
    have hoff : n.tables.speakers[k].enabled = false := by simpa only [Bool.not_eq_true'] using hoff
    refine enableSpeaker_crossing hwritten ?_
    rw [hoff, if_neg (by simp), hphase]
    exact h.1.disabled k hoff
  · split
    · exact request_crossing hwritten
    · exact hwritten

theorem crossing_keptByMessages : KeptByMessages Crossing where
  same n m hs h := by
    refine ⟨h.1.congr (phaseOf_congr hs.records) (currentOf_congr hs.records) (ownerOf_congr hs.slots) hs.waiting
      (fun k => by rw [hs.speakerTable]) (by rw [hs.control]) (by rw [hs.link]), ?_⟩
    rw [hs.control]
    exact h.2
  speaker _ _ _ _ _ h := writeSpeaker_crossing h
  band k band s n h := by
    refine ⟨h.1.congr (phaseOf_congr (by simp)) (currentOf_congr (by simp)) (ownerOf_congr (by simp)) (by simp)
      (fun j => ?_) (by simp) (by simp), by simpa using h.2⟩
    rw [setTables_tables, modifyVec_at]
    split
    · subst_vars
      exact (setBandEntry_fields band s _).1
    · rfl
  request _ _ h := request_crossing h

/-! ### Every piece of a step -/

/-- R142: a move into HALTED settles every speaker; the other states that a code gives form audio. -/
theorem moveByCode_crossfadesFit {d : Code} {n : Node} (h : CrossfadesFit n) : CrossfadesFit (moveByCode d n) := by
  unfold moveByCode
  split
  · rename_i he
    have hd : n.control.node ≠ .detached := fun e => by rw [e] at he; cases he
    have ha : n.link.address ≠ none := fun hn => hd (h.unlatched hn)
    cases d
    · exact h.moved rfl rfl ha fun _ hs => by cases hs
    · exact h.moved rfl rfl ha fun _ hs => by cases hs
    · exact crossfadesFit_settled rfl fun hn => absurd hn ha
    · exact crossfadesFit_settled rfl fun hn => absurd hn ha
  · exact h

theorem hopCheck_crossfadesFit {hop : BitVec 3} {n : Node} (h : CrossfadesFit n) : CrossfadesFit (hopCheck hop n) := by
  unfold hopCheck
  split
  · split
    · rename_i a ha
      split
      · exact h.congr_eq rfl rfl rfl rfl
      · split
        · exact crossfadesFit_settled rfl fun hn => by
            have hn : n.link.address = none := hn
            rw [ha] at hn
            cases hn
        · exact h.congr_eq rfl rfl rfl rfl
    · exact h
  · exact h

theorem firstLock_crossfadesFit {hop : BitVec 3} {n : Node} (h : CrossfadesFit n) (ha : n.link.address = none) :
    CrossfadesFit (firstLock hop n) :=
  h.moved rfl rfl (by simp [firstLock]) fun _ _ => h.settled (.inr ha)

/-- R92: what stands of a crossfade stands on in DETACHED. -/
theorem headLoss_crossfadesFit {n : Node} (h : CrossfadesFit n) : CrossfadesFit (headLoss n) := by
  have hlaw : SeatsLaw (headLoss n) := h.law.congr rfl rfl rfl
  refine crossfadesFit_of_seats hlaw.1 hlaw.2 h.disabled (fun hs => ?_) fun _ => rfl
  exact h.settled (.inr (hs.resolve_left fun hd => hd.1 rfl))

/-- R140: the count of STARTING may enter any state, every speaker being IDLE. -/
theorem countStarting_crossing {n : Node} (h : Crossing n) : Crossing (countStarting n) := by
  unfold countStarting
  split
  · rename_i hs
    refine ⟨h.1.moved rfl rfl h.latched fun _ _ => h.1.settled (.inl ⟨h.2, by rw [hs]; rfl⟩), ?_⟩
    dsimp only
    split
    · cases n.link.accepted <;> simp [stateOfCode]
    · simp
  · exact h

theorem composeLevels_crossing {n : Node} (h : Crossing n) : Crossing (composeLevels n) := by
  unfold composeLevels
  split
  · exact ⟨h.1.congr_eq rfl rfl rfl rfl, h.2⟩
  · exact h

theorem equalise_seat (n : Node) (k : Fin 24) (r : EqRecord) (x : Int) :
    (equalise n k r x).1.phase = r.phase ∧ (equalise n k r x).1.current = r.current := by
  unfold equalise
  split <;> exact ⟨rfl, rfl⟩

theorem speakerFrame_seat (n : Node) (k : Fin 24) (x : Int) :
    (speakerFrame n k x).record.phase = n.eq.records[k].phase ∧
    (speakerFrame n k x).record.current = n.eq.records[k].current := equalise_seat n k _ x

/-- R78: the record that a frame leaves to a speaker. -/
theorem storeFrames_record (slots : Vector Sample 32) (n : Node) (k : Fin 24) :
    (storeFrames (speakerFrames slots n) n).eq.records[k] =
      if n.tables.speakers[k].enabled then (speakerFrame n k (premix n slots k)).record else n.eq.records[k] := by
  simp only [storeFrames, speakerFrames, ofFn_at]
  cases n.tables.speakers[k].enabled <;> rfl

/-- R78, R85: a frame moves the chains and the counters of the slots alone. -/
theorem audioFrame_seats (slots : Vector Sample 32) (n : Node) :
    phaseOf (audioFrame slots n).1 = phaseOf n ∧ currentOf (audioFrame slots n).1 = currentOf n ∧
    ownerOf (audioFrame slots n).1 = ownerOf n ∧ (audioFrame slots n).1.eq.waiting = n.eq.waiting := by
  have hrecord (k : Fin 24) : (audioFrame slots n).1.eq.records[k].phase = n.eq.records[k].phase ∧
      (audioFrame slots n).1.eq.records[k].current = n.eq.records[k].current := by
    unfold audioFrame
    split
    · dsimp only
      rw [storeFrames_record]
      split
      · exact speakerFrame_seat (countSlots n) k _
      · exact ⟨rfl, rfl⟩
    · exact ⟨rfl, rfl⟩
  refine ⟨funext fun k => (hrecord k).1, funext fun k => (hrecord k).2, funext fun i => ?_, ?_⟩
  · unfold audioFrame ownerOf
    split
    · simp only [storeFrames, countSlots, mapVec_at, Option.map_map]
      rfl
    · rfl
  · unfold audioFrame
    split
    · simp only [storeFrames, countSlots]
    · rfl

theorem formFrame_crossfadesFit (f : Option DownFrame) {n : Node} (h : CrossfadesFit n) :
    CrossfadesFit (formFrame f n) := by
  obtain ⟨hphase, hcurrent, howner, hwait⟩ := audioFrame_seats (frameSlots f) n
  have heq : (formFrame f n).eq = (audioFrame (frameSlots f) n).1.eq := by simp [formFrame]
  refine h.congr ?_ ?_ ?_ (by rw [heq, hwait]) (fun k => by rw [(formFrame_fields f n).2.1])
    (by rw [(formFrame_fields f n).1]) (by rw [formFrame_link])
  · rw [← hphase]; exact phaseOf_congr (by rw [heq])
  · rw [← hcurrent]; exact currentOf_congr (by rw [heq])
  · rw [← howner]; exact ownerOf_congr (by rw [heq])

theorem crossfadesFit_kept : Kept CrossfadesFit where
  reset _ _ := crossfadesFit_resetEq rfl fun _ => rfl
  release _ h := h.congr rfl rfl rfl rfl (fun _ => rfl) rfl rfl
  headRun _ _ _ h _ _ := h.congr_eq rfl rfl rfl rfl
  firstLock _ _ _ h _ ha := firstLock_crossfadesFit h ha
  relock n run hop h _ ha := by
    refine crossfadesFit_settled (e := n.eq) (by simp [relock]) fun hn => ?_
    simp [relock, lockLink] at hn
    simp [hn] at ha
  headLoss _ h _ _ := headLoss_crossfadesFit h
  headCount _ _ h _ _ := h.congr_eq rfl rfl rfl rfl
  upstream n h _ := h.congr_eq (by simp) (by simp) (by simp) (by rw [sendUpstream_link])
  delays _ h _ := h.congr_eq rfl rfl rfl rfl
  code n c hop h := takeCode_keeps CrossfadesFit c hop n h (h.congr_eq rfl rfl rfl rfl)
    (crossfadesFit_resetEq (by simp [clearNode]) (by simp [clearNode]))
    fun d _ => moveByCode_crossfadesFit (h.congr_eq rfl rfl rfl rfl)
  hop _ _ h := hopCheck_crossfadesFit h
  noHop _ h := h.congr_eq rfl rfl rfl rfl
  cells _ _ _ h := h.congr_eq (by simp) (by simp) (by simp) (by simp)
  sources _ _ h := h.congr_eq (by simp) (by simp) (by simp) (by simp)
  form _ f h _ := formFrame_crossfadesFit f h
  count n h _ _ := h.congr_eq (by simp) (by simp) (by simp) (by rw [countFrame_link])
  choice _ _ h := h.congr_eq rfl rfl rfl rfl
  ampRun _ _ _ h _ _ _ := h.congr_eq rfl rfl rfl rfl
  ampLock _ _ h _ _ := h.congr_eq rfl rfl rfl rfl
  ampMissed _ h := by
    unfold ampMissed
    repeat' split
    all_goals exact h.congr_eq rfl rfl rfl rfl
  ampLoss _ _ h _ := h.congr_eq rfl rfl rfl rfl
  ampReceive _ _ h := by unfold ampReceive; split <;> exact h.congr_eq rfl rfl rfl rfl
  reply _ h := by unfold replyStarts; split <;> exact h.congr_eq rfl rfl rfl rfl
  work n w h hs _ := by
    have hin : n.control.node ≠ .detached := fun e => by rw [e] at hs; cases hs
    have hx : Crossing { n with boundary := n.boundary.erase w } := ⟨h.congr_eq rfl rfl rfl rfl, hin⟩
    exact (crossing_keptByMessages.doWork (fun i => completeFade_crossing i) composeLevels_crossing
      countStarting_crossing hx).1
  erase _ _ h := h.congr_eq rfl rfl rfl rfl
  handOver n i h hi := by
    have hw : n.eq.waiting = [] := by
      by_contra hne
      exact h.full hne i hi
    unfold handOver
    rw [hi, hw]
    exact h
  judge _ _ _ h _ := h.congr_eq (by simp) (by simp) (by simp) (by simp)

/-- Settles O59: the laws of the link port and of the crossfades are each kept by every piece of a step. -/
theorem stepsKeepTheLinkAndTheCrossfades : Obligations.StepsKeepTheLinkAndTheCrossfades := by
  unfold Obligations.StepsKeepTheLinkAndTheCrossfades
  exact fun s t ht => ⟨fun h => linkFits_kept.step s t h ht, fun h => crossfadesFit_kept.step s t h ht⟩

end Sys2Proof.Machine
end

section
/-! PROOFS. The machine's step, reset and the head-side and amp-side locks (R124 to R127, R138, R139, R148, R149). -/

namespace Sys2Proof.Machine

/-! ### Every command answers -/

/-- Each arm of the dispatch answers with the waiting commands as they are. -/
theorem exec_answers (c : Instr) (n : Node) (q : List Instr) : ∃ m : Node, exec c ⟨n, q⟩ = .next ⟨m, q⟩ := by
  cases c <;> exact ⟨_, rfl⟩

/-- Settles O1: every arm of the dispatch is an answer. -/
theorem stepRunsTheFrontCommand : Obligations.StepRunsTheFrontCommand := by
  unfold Obligations.StepRunsTheFrontCommand
  exact ⟨fun n c q => ⟨rfl, exec_answers c n q⟩, fun _ => rfl⟩

/-! ### Reset -/

/-- The node while the reset input is asserted. -/
def heldNode (choice : Nat) : Node := { control := { resetIn := true }, choice := choice }

/-- R84: nobody waits after reset, so that a free slot stays free. -/
theorem handOver_heldNode (slot : Fin 8) (choice : Nat) : handOver slot (heldNode choice) = heldNode choice := by
  unfold handOver
  split
  · rename_i hw
    cases hw
  · rfl
  · rfl

/-- R138: while the reset input is asserted no command but its release has an effect. -/
theorem exec_heldNode {c : Instr} (hc : c ≠ .resetRelease) (choice : Nat) (q : List Instr) :
    exec c ⟨heldNode choice, q⟩ = .next ⟨heldNode choice, q⟩ := by
  cases c
  case resetRelease => exact absurd rfl hc
  case crossfadeHandover slot =>
    have hfree : (heldNode choice).eq.slots[slot].isNone = true := by simp [heldNode]
    simp only [exec, execCrossfadeHandover, answer, hfree, if_true, handOver_heldNode]
  all_goals rfl

/-- Settles O2, each command by its row. -/
theorem resetInputHoldsTheNode : Obligations.ResetInputHoldsTheNode := by
  unfold Obligations.ResetInputHoldsTheNode
  exact fun n q => ⟨rfl, fun _ hc => exec_heldNode hc n.choice q, rfl⟩

/-- Settles O3, by evaluating the reset record. -/
theorem resetValues : Obligations.ResetValues := by
  unfold Obligations.ResetValues
  decide

/-- Settles O56: empty queues, no enabled speaker, silent gains, a hunting head side and an idle EQ engine. -/
theorem resetIsSafe : Obligations.ResetIsSafe := by
  unfold Obligations.ResetIsSafe
  exact {
    queues := by constructor <;> simp [State.reset]
    slots := slotsDistinct_reset rfl
    codes := codesFit_silent rfl rfl
    link := by constructor <;> simp [State.reset, receiverFits]
    crossfades := crossfadesFit_resetEq rfl fun _ => rfl
    store := by constructor <;> simp [State.reset] }

/-! ### The head side -/

section
variable {n : Node} {run : Nat} {hop : BitVec 3}

theorem headHunt_absent (hr : n.control.resetIn = false) (hh : n.link.head = .hunting run) :
    headHunt .absent hop n = setHead (.hunting 0) n := by
  simp [headHunt, hr, hh]

theorem headHunt_elsewhere (hr : n.control.resetIn = false) (hh : n.link.head = .hunting run) :
    headHunt .elsewhere hop n = if run = 0 then setHead (.hunting 1) n else n := by
  simp [headHunt, hr, hh]

theorem headHunt_atExpected (hr : n.control.resetIn = false) (hh : n.link.head = .hunting run) :
    headHunt .atExpected hop n = if run < 7 then setHead (.hunting (run + 1)) n else headLock hop n := by
  have hlock : 8 ≤ run + 1 ↔ ¬ run < 7 := by omega
  simp only [headHunt, hr, hh, hlock, ite_not]
  rfl

end

/-- Settles O4, by the three sights of a sync. -/
theorem headHuntCountsSyncs : Obligations.HeadHuntCountsSyncs := by
  unfold Obligations.HeadHuntCountsSyncs
  intro n q run hop hr hh _
  have hexec (seen : SyncSeen) : exec (.headHuntSync seen hop) ⟨n, q⟩ = .next ⟨headHunt seen hop n, q⟩ := rfl
  simp only [hexec]
  refine ⟨?_, fun h0 => ?_, fun h1 => ?_, fun h7 => ?_⟩
  · rw [headHunt_absent hr hh]; rfl
  · rw [headHunt_elsewhere hr hh, if_pos h0]; rfl
  · rw [headHunt_elsewhere hr hh, if_neg (by omega)]
  · rw [headHunt_atExpected hr hh, if_pos h7]; rfl

/-- Both rows of the eighth sync lock the head side. -/
theorem exec_eighthSync {n : Node} {hop : BitVec 3} {c : Instr} (q : List Instr)
    (hc : (c = .firstLock hop ∧ n.link.address = none) ∨ (c = .relock hop ∧ n.link.address ≠ none) ∨
      c = .headHuntSync .atExpected hop)
    (hr : n.control.resetIn = false) (hh : n.link.head = .hunting 7) :
    exec c ⟨n, q⟩ = .next ⟨headLock hop n, q⟩ := by
  have hdue : headLockDue n = true := by simp [headLockDue, hr, hh]
  rcases hc with ⟨rfl, ha⟩ | ⟨rfl, ha⟩ | rfl
  · simp [exec, execFirstLock, answer, hdue, ha, headLock]
  · obtain ⟨a, ha⟩ := Option.ne_none_iff_exists'.mp ha
    simp [exec, execRelock, answer, hdue, ha, headLock]
  · simp [exec, execHeadHuntSync, answer, headHunt_atExpected hr hh]

/-- Settles O5: with the address unlatched the eighth sync is the first lock. -/
theorem firstLockLatchesTheAddress : Obligations.FirstLockLatchesTheAddress := by
  unfold Obligations.FirstLockLatchesTheAddress
  intro n q hop c hc hr hh ha
  rw [exec_eighthSync q (hc.imp (fun h => ⟨h, ha⟩) .inr) hr hh, headLock, ha]
  rfl

/-- R91: what a record settles on, by its phase. -/
theorem settleRecord_eq (r : EqRecord) : settleRecord r = { current := lastDesired r } := rfl

/-- R149: the state that a relock enters. -/
theorem relockState_some {r : NodeState} (hr : r ≠ .detached) (c : Code) :
    relockState (some r) c =
      if r = .starting ∨ r = .fault ∨ r = .passive then r
      else if c = .run then .active else if c = .quiet then .quiet else .halted := by
  cases r <;> cases c <;> simp_all [relockState, stateOfCode]

theorem raiseIf_with (b : Bool) (e : Event) (n : Node) :
    raiseIf b e n = { n with events := if b then n.events ||| eventBit e else n.events } := by
  cases b <;> rfl

theorem addressedPosition_isSome {n : Node} {a : BitVec 3} (ha : n.link.address = some a) :
    (addressedPosition n).isSome = decide (a.toNat < 4) := by
  rw [addressedPosition, ha]
  dsimp only
  split <;> simp [*]

/-- Settles O6: with the address latched the eighth sync is a relock. -/
theorem relockRestartsEveryBlock : Obligations.RelockRestartsEveryBlock := by
  unfold Obligations.RelockRestartsEveryBlock
  intro n q hop a r c hc hr hh ha hret hdet
  rw [exec_eighthSync q (.inr (hc.imp (fun h => ⟨h, by simp [ha]⟩) id)) hr hh, headLock, ha]
  dsimp only
  rw [relock, raiseIf_with, addressedPosition_isSome ha, hret, relockState_some hdet]
  simp only [decide_eq_true_eq]
  rfl

/-- Settles O7: the fourth missed frame completes the standing boundary and loses lock. -/
theorem headLossDetaches : Obligations.HeadLossDetaches := by
  unfold Obligations.HeadLossDetaches
  rintro n q c (rfl | rfl) hh
  · refine ⟨completeBoundary n, rfl, ?_⟩
    simp only [exec, execHeadLossOfLock, answer, hh, if_true]
    rfl
  · refine ⟨completeBoundary n, rfl, ?_⟩
    simp only [exec, execMissedFrame, answer, frameMissed, hh]
    rfl

/-! ### The amp side -/

section
variable {n : Node} {run : Nat}

theorem ampHunt_headHunting (seen : SyncSeen) (hh : n.link.head = .hunting run) : ampHunt seen n = n := by
  simp only [ampHunt, hh]

variable (hh : headLocked n) (ha : n.link.amp = .hunting run)
include hh ha

theorem ampHunt_absent : ampHunt .absent n = setAmp (.hunting 0) n := by
  obtain ⟨k, hk⟩ := hh
  simp only [ampHunt, hk, ha]

theorem ampHunt_elsewhere : ampHunt .elsewhere n = if run = 0 then setAmp (.hunting 1) n else n := by
  obtain ⟨k, hk⟩ := hh
  simp only [ampHunt, hk, ha]

theorem ampHunt_atExpected :
    ampHunt .atExpected n = if run < 7 then setAmp (.hunting (run + 1)) n else Machine.ampLock n := by
  obtain ⟨k, hk⟩ := hh
  have hlock : 8 ≤ run + 1 ↔ ¬ run < 7 := by omega
  simp only [ampHunt, hk, ha, hlock, ite_not]

end

theorem ampLockDue_eq {n : Node} (hh : headLocked n) : ampLockDue n = (n.link.amp == .hunting 7) := by
  obtain ⟨k, hk⟩ := hh
  simp only [ampLockDue, hk]

theorem ampLockDue_hunting {n : Node} {run : Nat} (hh : n.link.head = .hunting run) : ampLockDue n = false := by
  simp only [ampLockDue, hh]

theorem ampMissed_locked {n : Node} {m : Nat} (ha : n.link.amp = .locked m) :
    ampMissed n =
      if m < 3 then { n with link := { n.link with amp := .locked (m + 1), upNow := none } } else ampLoss n := by
  have hloss : 4 ≤ m + 1 ↔ ¬ m < 3 := by omega
  simp only [ampMissed, ha, hloss, ite_not]

/-- Settles O15, by the state of the amp-side receiver and the three sights of a sync. -/
theorem ampSideHuntsLocksAndLoses : Obligations.AmpSideHuntsLocksAndLoses := by
  unfold Obligations.AmpSideHuntsLocksAndLoses
  have hsync (seen : SyncSeen) (n : Node) (q : List Instr) :
      exec (.ampHuntSync seen) ⟨n, q⟩ = .next ⟨ampHunt seen n, q⟩ := rfl
  have hlock (n : Node) (q : List Instr) :
      exec .ampLock ⟨n, q⟩ = .next ⟨if ampLockDue n then ampLock n else n, q⟩ := rfl
  refine ⟨fun n q run ha _ => ⟨fun hh => ?_, fun ⟨r, hr⟩ c hc => ?_⟩, fun n q miss f ha => ⟨?_, fun hm => ?_, ?_⟩⟩
  · simp only [hsync]
    refine ⟨?_, fun h0 => ?_, fun h1 => ?_, fun h7 => ?_, ?_⟩
    · rw [ampHunt_absent hh ha]; rfl
    · rw [ampHunt_elsewhere hh ha, if_pos h0]; rfl
    · rw [ampHunt_elsewhere hh ha, if_neg (by omega)]
    · rw [ampHunt_atExpected hh ha, if_pos h7]; rfl
    · rintro rfl c (rfl | rfl)
      · rw [hlock, ampLockDue_eq hh, ha, if_pos (by decide)]; rfl
      · rw [hsync, ampHunt_atExpected hh ha, if_neg (by omega)]; rfl
  · obtain rfl | ⟨seen, rfl⟩ := hc
    · rw [hlock, ampLockDue_hunting hr, if_neg (by decide)]
    · rw [hsync, ampHunt_headHunting seen hr]
  · simp only [exec, execUpstreamFrameReceive, answer, ampReceive, ha]
  · simp only [exec, execAmpMissedFrame, answer, ampMissed_locked ha, if_pos hm]
  · rintro rfl c (rfl | rfl)
    · simp only [exec, execAmpMissedFrame, answer, ampMissed_locked ha, if_neg (Nat.lt_irrefl 3)]
      rfl
    · simp only [exec, execAmpLossOfLock, answer, ha, if_true]
      rfl

end Sys2Proof.Machine
end

section
/-! PROOFS. Command codes, CLEAR and the hop count, alone and in a frame (R131, R132, R142, R144, R147). -/

namespace Sys2Proof.Machine

/-! ### What a frame's header reads -/

/-- Two nodes agree in what a command code and a hop count read and move, but for the queues and the flags. -/
structure Agree (n m : Node) : Prop where
  control : m.control = n.control
  accepted : m.link.accepted = n.link.accepted
  candidate : m.link.candidate = n.link.candidate
  address : m.link.address = n.link.address
  mismatch : m.link.mismatch = n.link.mismatch
  tables : m.tables = n.tables
  live : m.live = n.live
  levels : m.levels = n.levels
  eq : m.eq = n.eq

namespace Agree

variable {n m k : Node}

theorem refl (n : Node) : Agree n n := ⟨rfl, rfl, rfl, rfl, rfl, rfl, rfl, rfl, rfl⟩

theorem trans (h : Agree n m) (g : Agree m k) : Agree n k :=
  ⟨g.control.trans h.control, g.accepted.trans h.accepted, g.candidate.trans h.candidate, g.address.trans h.address,
   g.mismatch.trans h.mismatch, g.tables.trans h.tables, g.live.trans h.live, g.levels.trans h.levels, g.eq.trans h.eq⟩

theorem symm (h : Agree n m) : Agree m n :=
  ⟨h.control.symm, h.accepted.symm, h.candidate.symm, h.address.symm, h.mismatch.symm, h.tables.symm, h.live.symm,
   h.levels.symm, h.eq.symm⟩

theorem setMismatch (h : Agree n m) (k : Nat) : Agree (setMismatch k n) (setMismatch k m) := by
  obtain ⟨hc, ha, hd, hl, hm, ht, hv, hg, he⟩ := h
  constructor <;> simp [*]

theorem moveByCode (h : Agree n m) (d : Code) :
    Agree (moveByCode d (setAccepted d n)) (moveByCode d (setAccepted d m)) := by
  obtain ⟨hc, ha, hd, hl, hm, ht, hv, hg, he⟩ := h
  unfold Machine.moveByCode
  rw [show (setAccepted d m).control = (setAccepted d n).control from hc]
  split
  · unfold moveTo
    split <;> constructor <;> simp [*]
  · constructor <;> simp [*]

theorem takeCode (h : Agree n m) (c : Option Code) (hop : BitVec 3) :
    Agree (takeCode c hop n) (takeCode c hop m) := by
  unfold Machine.takeCode
  rw [h.control, h.candidate, h.accepted]
  split
  · cases c with
    | none =>
      obtain ⟨hc, ha, hd, hl, hm, ht, hv, hg, he⟩ := h
      constructor <;> simp [*]
    | some d =>
      dsimp only
      split
      · split
        · exact h
        · cases d with
          | clear =>
            obtain ⟨hc, ha, hd, hl, hm, ht, hv, hg, he⟩ := h
            constructor <;> simp [acceptCode, clearNode, *]
          | run => exact h.moveByCode .run
          | quiet => exact h.moveByCode .quiet
          | halt => exact h.moveByCode .halt
      · obtain ⟨hc, ha, hd, hl, hm, ht, hv, hg, he⟩ := h
        constructor <;> simp [*]
  · exact h

theorem hopCheck (h : Agree n m) (hop : BitVec 3) : Agree (hopCheck hop n) (hopCheck hop m) := by
  unfold Machine.hopCheck
  rw [h.control, h.address]
  split
  · split
    · rw [h.mismatch]
      split
      · exact h.setMismatch _
      · split
        · obtain ⟨hc, ha, hd, hl, hm, ht, hv, hg, he⟩ := h
          constructor <;> simp [enterFault, *]
        · exact h.setMismatch _
    · exact h
  · exact h

theorem takeHeader (h : Agree n m) (f : Option DownFrame) : Agree (takeHeader f n) (takeHeader f m) := by
  cases f with
  | none => exact (h.takeCode none 0).setMismatch 0
  | some f => exact (h.takeCode (codeOf f.code) f.hop).hopCheck f.hop

end Agree

/-- A frame's cells change nothing that the header reads. -/
theorem takeFrameCells_agree (f : Option DownFrame) (n : Node) : Agree n (takeFrameCells f n) := by
  constructor <;> simp

theorem takeSources_agree (slots : Vector Sample 32) (n : Node) : Agree n (takeSources slots n) := by
  constructor <;> simp

/-- In whatever order, header and cells leave what the header alone leaves. -/
theorem takeControl_agree (f : Option DownFrame) (n : Node) : Agree (takeHeader f n) (takeControl f n) := by
  have hchoice : Agree n { n with choice := n.choice + 1 } := by constructor <;> rfl
  unfold takeControl
  repeat' split
  · exact (hchoice.trans (takeFrameCells_agree f _)).takeHeader f
  · exact (hchoice.takeHeader f).trans (takeFrameCells_agree f _)
  · exact takeFrameCells_agree f _

/-! ### One frame's command code -/

section
variable {n : Node} {c : Code} {hop : BitVec 3}

theorem codesTaken_of_ne {s : NodeState} (h : s ≠ .detached) : codesTaken s = true := by simp [codesTaken, h]

theorem takeCode_detached (d : Option Code) (hd : n.control.node = .detached) : takeCode d hop n = n := by
  unfold takeCode
  rw [hd]
  rfl

variable (hd : n.control.node ≠ .detached)
include hd

theorem takeCode_none : takeCode none hop n = setCandidate none n := by
  rw [takeCode, if_pos (codesTaken_of_ne hd)]

theorem takeCode_candidate (hc : n.link.candidate ≠ some c) : takeCode (some c) hop n = setCandidate (some c) n := by
  rw [takeCode, if_pos (codesTaken_of_ne hd)]
  exact if_neg hc

theorem takeCode_accepted (hc : n.link.candidate = some c) (ha : n.link.accepted = c) : takeCode (some c) hop n = n := by
  rw [takeCode, if_pos (codesTaken_of_ne hd)]
  exact (if_pos hc).trans (if_pos ha)

theorem takeCode_accepts (hc : n.link.candidate = some c) (ha : n.link.accepted ≠ c) :
    takeCode (some c) hop n = acceptCode c hop n := by
  rw [takeCode, if_pos (codesTaken_of_ne hd)]
  exact (if_pos hc).trans (if_neg ha)

end

/-- The rows of RUN, QUIET and HALT with the state that each moves to. -/
theorem exec_codeRow {i : Instr} {c : Code} {s : NodeState}
    (h : (i = .run ∧ c = .run ∧ s = .active) ∨ (i = .quiet ∧ c = .quiet ∧ s = .quiet) ∨
      (i = .halt ∧ c = .halt ∧ s = .halted)) :
    c ≠ .clear ∧ stateOfCode c = s ∧
    ∀ (n : Node) (q : List Instr), exec i ⟨n, q⟩ = .next ⟨takeCode (some c) 0 (completeBoundary n), q⟩ := by
  obtain ⟨rfl, rfl, rfl⟩ | ⟨rfl, rfl, rfl⟩ | ⟨rfl, rfl, rfl⟩ := h
  all_goals exact ⟨by decide, rfl, fun _ _ => rfl⟩

theorem acceptCode_moves {c : Code} (hc : c ≠ .clear) (hop : BitVec 3) (n : Node) :
    acceptCode c hop n = moveByCode c (setAccepted c n) := by
  cases c <;> first | rfl | exact absurd rfl hc

/-- R142: the states that a code moves are those in which the executor runs. -/
theorem moveByCode_stays {c : Code} {n : Node}
    (h : n.control.node = .starting ∨ n.control.node = .fault ∨ n.control.node = .passive) : moveByCode c n = n := by
  rw [moveByCode, if_neg]
  rcases h with h | h | h <;> rw [h] <;> decide

theorem moveByCode_moves {c : Code} {n : Node}
    (h : n.control.node = .halted ∨ n.control.node = .quiet ∨ n.control.node = .active) :
    moveByCode c n = moveTo (stateOfCode c) n := by
  rw [moveByCode, if_pos]
  rcases h with h | h | h <;> rw [h] <;> rfl

theorem moveTo_of_ne {s : NodeState} (hs : s ≠ .halted) (n : Node) : moveTo s n = setNodeState s n := by
  cases s <;> first | rfl | exact absurd rfl hs

/-- Settles O16, by the candidate and the accepted code and then by the node state. -/
theorem codesMoveTheWorkingStates : Obligations.CodesMoveTheWorkingStates := by
  unfold Obligations.CodesMoveTheWorkingStates
  intro n b q i c s hrow hb hd
  obtain ⟨hclear, hs, hexec⟩ := exec_codeRow hrow
  rw [hexec, ← hb]
  refine ⟨fun hc => ?_, fun hc ha => ?_, fun hc ha => ?_⟩
  · rw [takeCode_candidate hd hc]; rfl
  · rw [takeCode_accepted hd hc ha]
  · rw [takeCode_accepts hd hc ha, acceptCode_moves hclear]
    refine ⟨fun hn => ?_, fun hn => ?_⟩
    · rw [moveByCode_stays (n := setAccepted c b) hn]; rfl
    · rw [moveByCode_moves (n := setAccepted c b) hn, hs]
      refine ⟨fun hne => ?_, fun he => ?_⟩
      · rw [moveTo_of_ne hne]; rfl
      · rw [he]; rfl

/-! ### CLEAR -/

theorem stateOfAddress_low {a : BitVec 3} (h : a.toNat < 4) : stateOfAddress a = .starting := if_pos h

theorem stateOfAddress_high {a : BitVec 3} (h : 4 ≤ a.toNat) : stateOfAddress a = .passive := if_neg (by omega)

/-- R151: what is left of a lane's assembly at the acceptance of CLEAR. -/
theorem clearLane_eq (hop : BitVec 3) (l : Lane) : clearLane (stateOfAddress hop) l =
    { assembly := if hop.toNat < 4 ∧ l.assembly = .ready then .ready else .skipping, queue := [] } := by
  by_cases h : hop.toNat < 4
  · rw [stateOfAddress_low h]
    cases ha : l.assembly <;> simp [clearLane, clearAssembly, ha, h]
  · rw [stateOfAddress_high (by omega)]
    simp [clearLane, h]

/-- R147: the node after the acceptance of CLEAR, no boundary standing. -/
theorem clearNode_settled {hop : BitVec 3} {n : Node} (hb : n.boundary = []) :
    clearNode hop n = { ({} : Node) with
      control := { n.control with
        node := if hop.toNat < 4 then .starting else .passive, returnState := none, clearCount := 0 }
      link := { n.link with address := some hop, mismatch := 0 }
      settingLane :=
        { assembly := if hop.toNat < 4 ∧ n.settingLane.assembly = .ready then .ready else .skipping, queue := [] }
      liveLane := { assembly := if hop.toNat < 4 ∧ n.liveLane.assembly = .ready then .ready else .skipping, queue := [] }
      merger := if hop.toNat < 4 then mergerClear n.merger else {}
      choice := n.choice } := by
  rw [clearNode, clearLane_eq, clearLane_eq, hb]
  by_cases h : hop.toNat < 4
  · simp [stateOfAddress_low h, h]
  · simp [stateOfAddress_high (Nat.not_lt.mp h), h]

theorem setAccepted_of_candidate {c : Code} {n : Node} (hc : n.link.candidate = some c) :
    setAccepted c n = { n with link := { n.link with accepted := c } } := by
  rw [setAccepted, ← hc]

/-- R168: what is owed for a reply at the acceptance of CLEAR into STARTING. -/
theorem mergerClear_output (m : Merger) :
    (∀ pos, 1 ≤ pos → m.output = .sendingReply pos → (mergerClear m).output = .aborting) ∧
    (m.output = .between ∨ m.output = .sendingPass → (mergerClear m).output = m.output) := by
  constructor
  · rintro (_ | pos) hpos ho
    · cases hpos
    · simp only [mergerClear, ho]
  · rintro (ho | ho) <;> simp only [mergerClear, ho]

/-- Settles O17, by the candidate and the accepted code. -/
theorem clearRestoresTheNode : Obligations.ClearRestoresTheNode := by
  unfold Obligations.ClearRestoresTheNode
  intro n b q hop hb hd
  have hexec : exec (.clear hop) ⟨n, q⟩ = .next ⟨takeCode (some .clear) hop b, q⟩ := by rw [hb]; rfl
  rw [hexec]
  refine ⟨fun hc => ?_, fun hc ha => ?_, fun hc ha => ⟨_, rfl, ?_⟩⟩
  · rw [takeCode_candidate hd hc]; rfl
  · rw [takeCode_accepted hd hc ha]
  · have hboundary : b.boundary = [] := by rw [hb]; exact (completeBoundary_outer n).2
    rw [takeCode_accepts hd hc ha, acceptCode, clearNode_settled (by rwa [setAccepted_boundary]),
      setAccepted_of_candidate hc]
    refine ⟨rfl, rfl, rfl, fun h4 => if_neg (Nat.not_lt.mpr h4), fun h4 => ?_⟩
    simp only [if_pos h4]
    exact ⟨rfl, rfl, mergerClear_output b.merger⟩

/-! ### The hop count -/

section
variable {n : Node} {hop a : BitVec 3}

theorem hopCheck_off (hr : hopCheckRuns n.control.node = false) : hopCheck hop n = n := by
  rw [hopCheck, hr]
  rfl

variable (hr : hopCheckRuns n.control.node = true) (ha : n.link.address = some a)
include hr ha

theorem hopCheck_equal (h : hop = a) : hopCheck hop n = setMismatch 0 n := by
  simp only [hopCheck, hr, ha, if_true, h]

theorem hopCheck_differs (h : hop ≠ a) :
    hopCheck hop n = if 2 ≤ n.link.mismatch + 1 then enterFault n else setMismatch (n.link.mismatch + 1) n := by
  simp only [hopCheck, hr, ha, if_true, if_neg h]

end

/-- Settles O18, by the states that check and the mismatch count. -/
theorem hopMismatchFaults : Obligations.HopMismatchFaults := by
  unfold Obligations.HopMismatchFaults
  intro n b q hop a hb ha
  have hexec : exec (.hopMismatchFault hop) ⟨n, q⟩ = .next ⟨hopCheck hop b, q⟩ := by rw [hb]; rfl
  rw [hexec]
  refine ⟨fun hs => ?_, fun hs => ?_⟩
  · have hr : hopCheckRuns b.control.node = true := by rcases hs with h | h | h | h <;> rw [h] <;> rfl
    refine ⟨fun he => ?_, fun hne h0 => ?_, fun hne h1 => ?_⟩
    · rw [hopCheck_equal hr ha he]; rfl
    · rw [hopCheck_differs hr ha hne, h0, if_neg (by omega)]; rfl
    · rw [hopCheck_differs hr ha hne, h1, if_pos (by omega)]; rfl
  · rw [hopCheck_off]
    rcases hs with h | h <;> rw [h] <;> rfl

/-! ### R132: the accepted code -/

/-- A taken code leaves the accepted code and the candidate, becomes the candidate, or is the candidate accepted. -/
theorem takeCode_codes (c : Option Code) (hop : BitVec 3) {n : Node} (hd : n.control.node ≠ .detached) :
    (takeCode c hop n).link.candidate = c ∧
    ((takeCode c hop n).link.accepted = n.link.accepted ∨
      c = some (takeCode c hop n).link.accepted ∧ n.link.candidate = c) := by
  obtain ⟨hn | ⟨d, hcd, hcand, hacc⟩, e⟩ | ⟨-, e⟩ | ⟨-, d, hcd, hcand, hne, e⟩ := takeCode_cases c hop n
  · exact absurd hn hd
  · rw [e]
    exact ⟨hcand.trans hcd.symm, .inl rfl⟩
  · rw [e]
    exact ⟨by simp, .inl (by simp)⟩
  · rw [e]
    have hlink : (acceptCode d hop n).link.accepted = d ∧ (acceptCode d hop n).link.candidate = some d := by
      obtain ⟨rfl, ea⟩ | ⟨-, ea⟩ := acceptCode_cases d hop n
      · rw [ea]; simp [clearNode]
      · rw [ea]; simp
    rw [hlink.1, hlink.2, hcd]
    exact ⟨rfl, .inr ⟨rfl, hcand⟩⟩

theorem hopCheck_codes (hop : BitVec 3) (n : Node) :
    (hopCheck hop n).link.accepted = n.link.accepted ∧ (hopCheck hop n).link.candidate = n.link.candidate := by
  unfold hopCheck
  repeat' split
  all_goals simp [enterFault]

/-- The code of a frame, none for a missed frame. -/
def frameCode (f : Option DownFrame) : Option Code := f.bind fun f => codeOf f.code

/-- The hop count that a frame's code is taken with. -/
def frameHop (f : Option DownFrame) : BitVec 3 := (f.map (·.hop)).getD 0

theorem takeHeader_codes (f : Option DownFrame) (n : Node) :
    (takeHeader f n).link.accepted = (takeCode (frameCode f) (frameHop f) n).link.accepted ∧
    (takeHeader f n).link.candidate = (takeCode (frameCode f) (frameHop f) n).link.candidate := by
  cases f with
  | none => simp [takeHeader, frameCode, frameHop]
  | some f => exact hopCheck_codes _ _

theorem codeOf_eq_some {x : BitVec 4} {c : Code} : codeOf x = some c ↔ x = codeNumber c := by
  cases c <;> revert x <;> decide

/-! ### A frame period in its parts -/

/-- A property that every taken work keeps is kept by a boundary. -/
theorem runWorks_keeps (P : Node → Prop)
    (h : ∀ n w, P n → w ∈ n.boundary → mayTake n w = true → P (takeWork w { n with choice := n.choice + 1 })) :
    ∀ fuel n, P n → P (runWorks fuel n) := by
  intro fuel
  induction fuel with
  | zero => exact fun _ hn => hn
  | succ fuel ih =>
    intro n hn
    rw [runWorks]
    split
    · exact hn
    · rename_i w hw
      obtain ⟨hmem, hmay⟩ := nextWork_mem n w hw
      exact ih _ (h n w hn hmem hmay)

/-- R140: a boundary moves STARTING alone, and never into DETACHED. -/
theorem completeBoundary_attached {n : Node} (h : n.control.node ≠ .detached) :
    (completeBoundary n).control.node ≠ .detached := by
  refine runWorks_keeps (fun m => m.control.node ≠ .detached) (fun m w hm _ _ => ?_) _ n h
  unfold takeWork
  split
  · by_cases hw : w = .starting
    · subst hw
      simp only [doWork, countStarting]
      split
      · dsimp only
        split
        · cases m.link.accepted <;> simp [stateOfCode]
        · simp
      · exact hm
    · rw [doWork_control _ hw]
      exact hm
  · exact hm

/-- The node of a frame period before the frame's content is taken: the upstream frame is sent and the delays advance. -/
def delayed (n : Node) : Node := advanceDelays (sendUpstream (completeBoundary n))

/-- The node of a frame period before its downstream frame is formed. -/
def taken (f : Option DownFrame) (n : Node) : Node := takeSources (frameSlots f) (takeControl f (delayed n))

theorem framePeriod_eq (f : Option DownFrame) (n : Node) : framePeriod f n = countFrame (formFrame f (taken f n)) := rfl

theorem delayed_agree (n : Node) : Agree (completeBoundary n) (delayed n) := by
  have hlink := sendUpstream_link (completeBoundary n)
  constructor <;> simp [delayed] <;> rw [hlink]

theorem taken_agree (f : Option DownFrame) (n : Node) : Agree (takeHeader f (completeBoundary n)) (taken f n) :=
  (((delayed_agree n).takeHeader f).trans (takeControl_agree f _)).trans (takeSources_agree _ _)

/-- What the forming and the counting of a frame leave of the link port. -/
theorem framePeriod_link (f : Option DownFrame) (n : Node) :
    (framePeriod f n).link.accepted = (taken f n).link.accepted ∧
    (framePeriod f n).link.candidate = (taken f n).link.candidate ∧
    (framePeriod f n).link.address = (taken f n).link.address ∧
    (framePeriod f n).link.mismatch = (taken f n).link.mismatch := by
  rw [framePeriod_eq, countFrame_link, formFrame_link]
  exact ⟨rfl, rfl, rfl, rfl⟩

theorem framePeriod_codes (f : Option DownFrame) (n : Node) :
    (framePeriod f n).link.accepted = (takeCode (frameCode f) (frameHop f) (completeBoundary n)).link.accepted ∧
    (framePeriod f n).link.candidate = (takeCode (frameCode f) (frameHop f) (completeBoundary n)).link.candidate := by
  obtain ⟨hacc, hcand, -, -⟩ := framePeriod_link f n
  have hagree := taken_agree f n
  obtain ⟨hacc', hcand'⟩ := takeHeader_codes f (completeBoundary n)
  exact ⟨(hacc.trans hagree.accepted).trans hacc', (hcand.trans hagree.candidate).trans hcand'⟩

/-! ### Each command's effect on the accepted code and the candidate -/

/-- The accepted code stands, and the candidate stands or goes. -/
def CodesStand (n m : Node) : Prop :=
  m.link.accepted = n.link.accepted ∧ (m.link.candidate = n.link.candidate ∨ m.link.candidate = none)

theorem CodesStand.of_link {n m : Node} (h : m.link = n.link) : CodesStand n m := by
  rw [CodesStand, h]
  exact ⟨rfl, .inl rfl⟩

/-- What the taking of a code, or of none, makes of the accepted code and the candidate. -/
def CodesTaken (c : Option Code) (n m : Node) : Prop :=
  (m.link.accepted = n.link.accepted ∨ c = some m.link.accepted ∧ n.link.candidate = c) ∧
  (m.link.candidate = c ∨ n.control.node = .detached ∧ m.link.candidate = n.link.candidate)

/-- The boundary before a frame changes nothing that the codes read, but may end STARTING. -/
theorem takeCode_codesTaken (c : Option Code) (hop : BitVec 3) (n : Node) :
    CodesTaken c n (takeCode c hop (completeBoundary n)) := by
  have hlink := (completeBoundary_outer n).1
  by_cases hd : (completeBoundary n).control.node = .detached
  · rw [takeCode_detached c hd, CodesTaken, hlink]
    refine ⟨.inl rfl, .inr ⟨?_, rfl⟩⟩
    by_contra hn
    exact completeBoundary_attached hn hd
  · obtain ⟨hcand, hacc⟩ := takeCode_codes c hop hd
    rw [hlink] at hacc
    exact ⟨hacc, .inl hcand⟩

theorem framePeriod_codesTaken (f : Option DownFrame) (n : Node) : CodesTaken (frameCode f) n (framePeriod f n) := by
  have h := takeCode_codesTaken (frameCode f) (frameHop f) n
  obtain ⟨hacc, hcand⟩ := framePeriod_codes f n
  rw [CodesTaken, ← hacc, ← hcand] at h
  exact h

theorem headHunt_codesStand (seen : SyncSeen) (hop : BitVec 3) (n : Node) : CodesStand n (headHunt seen hop n) := by
  unfold headHunt headLock
  repeat' split
  all_goals simp [CodesStand, firstLock, relock, lockLink]

theorem ampHunt_codesStand (seen : SyncSeen) (n : Node) : CodesStand n (ampHunt seen n) := by
  unfold ampHunt
  repeat' split
  all_goals simp [CodesStand, ampLock]

theorem takeEvent_link (w : Work) (b : Bool) (n : Node) : (takeEvent w b n).link = n.link := by
  obtain ⟨-, -, e⟩ | ⟨-, e⟩ := takeEvent_cases w b n
  · rw [e]; exact (takeWork_outer w n).1
  · rw [e]

theorem deliver_link (h : MsgHeader) (k : Kind) (payload : List Byte) (n : Node) :
    (deliver h k payload n).link = n.link := by
  unfold deliver takeLaneNow
  dsimp only
  repeat' split
  all_goals simp [takeWork_outer]

/-- A frame of a locked head side takes its code. -/
theorem frameReceived_codesTaken {f : DownFrame} {k : Nat} {n : Node} (hl : n.link.head = .locked k) :
    CodesTaken (codeOf f.code) n (frameReceived f n) := by
  simp only [frameReceived, hl]
  exact framePeriod_codesTaken (some f) (setHead (.locked 0) n)

/-- R132: a missed frame takes the candidate away, and so does the loss of lock. -/
theorem frameMissed_codesTaken {k : Nat} {n : Node} (hl : n.link.head = .locked k) :
    CodesTaken none n (frameMissed n) := by
  simp only [frameMissed, hl]
  split
  · rw [CodesTaken, headLoss, (completeBoundary_outer n).1]
    exact ⟨.inl rfl, .inl rfl⟩
  · exact framePeriod_codesTaken none (setHead (.locked (k + 1)) n)

/-- Every command but the reset leaves the codes or takes one that it brings. -/
theorem exec_codes {i : Instr} {n m : Node} {q r : List Instr} (h : exec i ⟨n, q⟩ = .next ⟨m, r⟩) :
    (i = .resetAssert ∧ m.link.accepted = .halt ∧ m.link.candidate = none) ∨ CodesStand n m ∨
    ∃ c, (∀ d, c = some d → bringsCode i d) ∧ CodesTaken c n m := by
  have stands (h : CodesStand n m) : (i = .resetAssert ∧ m.link.accepted = .halt ∧ m.link.candidate = none) ∨
      CodesStand n m ∨ ∃ c, (∀ d, c = some d → bringsCode i d) ∧ CodesTaken c n m := .inr (.inl h)
  have hboundary := (completeBoundary_outer n).1
  cases i <;> cases h
  case resetAssert => exact .inl ⟨rfl, rfl, rfl⟩
  case resetRelease => exact stands (.of_link rfl)
  case headHuntSync seen hop => exact stands (headHunt_codesStand seen hop n)
  case firstLock hop =>
    refine stands ?_
    dsimp only
    split <;> simp [CodesStand, firstLock, lockLink]
  case relock hop =>
    refine stands ?_
    dsimp only
    split <;> simp [CodesStand, relock, lockLink]
  case downstreamFrame f =>
    cases hl : n.link.head with
    | locked k =>
      exact .inr (.inr ⟨_, fun d hd => .inl ⟨f, rfl, codeOf_eq_some.mp hd⟩, frameReceived_codesTaken hl⟩)
    | hunting run => exact stands (by simp only [frameReceived, hl]; exact .of_link rfl)
  case missedFrame =>
    cases hl : n.link.head with
    | locked k => exact .inr (.inr ⟨none, nofun, frameMissed_codesTaken hl⟩)
    | hunting run => exact stands (by simp only [frameMissed, hl]; exact .of_link rfl)
  case headLossOfLock =>
    refine stands ?_
    dsimp only
    split <;> simp [CodesStand, headLoss, hboundary]
  case replyStart =>
    refine stands (.of_link ?_)
    rw [← hboundary]
    dsimp only
    unfold replyStarts
    split <;> rfl
  case upstreamFrameReceive f =>
    refine stands ?_
    dsimp only [ampReceive]
    split <;> simp [CodesStand]
  case ampLock =>
    refine stands ?_
    dsimp only
    split <;> simp [CodesStand, ampLock]
  case ampMissedFrame =>
    refine stands ?_
    dsimp only [ampMissed]
    repeat' split
    all_goals simp [CodesStand, ampLoss]
  case ampLossOfLock =>
    refine stands ?_
    dsimp only
    split <;> simp [CodesStand, ampLoss]
  case run => exact .inr (.inr ⟨some .run, fun d hd => .inr (.inl ⟨rfl, by cases hd; rfl⟩), takeCode_codesTaken _ _ n⟩)
  case quiet =>
    exact .inr (.inr ⟨some .quiet, fun d hd => .inr (.inr (.inl ⟨rfl, by cases hd; rfl⟩)), takeCode_codesTaken _ _ n⟩)
  case halt =>
    exact .inr (.inr ⟨some .halt, fun d hd => .inr (.inr (.inr (.inl ⟨rfl, by cases hd; rfl⟩))),
      takeCode_codesTaken _ _ n⟩)
  case clear hop =>
    exact .inr (.inr ⟨some .clear, fun d hd => .inr (.inr (.inr (.inr ⟨hop, rfl, by cases hd; rfl⟩))),
      takeCode_codesTaken _ _ n⟩)
  case hopMismatchFault hop =>
    have hcodes := hopCheck_codes hop (completeBoundary n)
    rw [hboundary] at hcodes
    exact stands ⟨hcodes.1, .inl hcodes.2⟩
  case blockBoundary => exact stands (.of_link hboundary)
  case crossfadeHandover slot =>
    refine stands (.of_link ?_)
    dsimp only
    split
    · exact (handOver_onlyEq slot n).link
    · exact takeEvent_link _ _ n
  case ampHuntSync seen => exact stands (ampHunt_codesStand seen n)
  case presenceHoldExpiry | liftReleaseStep | staleTimeExpiry | failTimeExpiry | guardHoldEnd | guardRecoveryStep |
      rampSegmentClose | crossfadeComplete | startingEnd => exact stands (.of_link (takeEvent_link _ _ n))
  all_goals exact stands (.of_link (deliver_link _ _ _ n))

/-- Settles O19, by what each command makes of the accepted code and the candidate. -/
theorem acceptedCodeNeedsTwoFrames : Obligations.AcceptedCodeNeedsTwoFrames := by
  unfold Obligations.AcceptedCodeNeedsTwoFrames
  intro n m i q r hstep
  have hexec : exec i ⟨n, q⟩ = .next ⟨m, r⟩ := hstep
  have hcodes := exec_codes hexec
  refine ⟨fun hne => ?_, fun c hc => ?_, fun f k hi hl hd c hc => ?_, fun k hi hl hd => ?_⟩
  · obtain ⟨hi, hacc, -⟩ | ⟨hacc, -⟩ | ⟨c, hbrings, hacc, -⟩ := hcodes
    · exact .inl ⟨hi, hacc⟩
    · exact absurd hacc hne
    · obtain ⟨hc, hcand⟩ := hacc.resolve_left hne
      exact .inr ⟨hcand.trans hc, hbrings _ hc⟩
  · obtain ⟨-, -, hcand⟩ | ⟨-, hcand⟩ | ⟨d, hbrings, -, hcand⟩ := hcodes
    · rw [hc] at hcand; cases hcand
    · rcases hcand with hcand | hcand
      · exact .inl (hcand ▸ hc)
      · rw [hc] at hcand; cases hcand
    · rcases hcand with hcand | ⟨-, hcand⟩
      · exact .inr (hbrings c (hcand ▸ hc))
      · exact .inl (hcand ▸ hc)
  · subst hi
    cases hexec
    obtain ⟨-, hcand⟩ := frameReceived_codesTaken (f := f) hl
    obtain hcand | ⟨hdet, -⟩ := hcand
    · exact .inl ⟨f, rfl, codeOf_eq_some.mp (hcand ▸ hc)⟩
    · exact absurd hdet hd
  · subst hi
    cases hexec
    obtain ⟨-, hcand⟩ := frameMissed_codesTaken hl
    obtain hcand | ⟨hdet, -⟩ := hcand
    · exact hcand
    · exact absurd hdet hd

end Sys2Proof.Machine
end

section
/-! PROOFS. What a frame period sends, keeps and counts (R122 to R129, R134 to R136, R166 to R168). -/

namespace Sys2Proof.Machine

/-! ### The link port through a frame period -/

/-- The header moves the address, the codes and the mismatch count alone. -/
theorem takeCode_link (c : Option Code) (hop : BitVec 3) (n : Node) : (takeCode c hop n).link = { n.link with
    address := (takeCode c hop n).link.address, accepted := (takeCode c hop n).link.accepted
    candidate := (takeCode c hop n).link.candidate, mismatch := (takeCode c hop n).link.mismatch } := by
  refine takeCode_keeps (fun m => m.link = { n.link with
    address := m.link.address, accepted := m.link.accepted
    candidate := m.link.candidate, mismatch := m.link.mismatch }) c hop n rfl ?_ ?_ fun d _ => ?_
  · simp [setCandidate]
  · simp [clearNode, setAccepted]
  · simp [setAccepted]

theorem hopCheck_link (hop : BitVec 3) (n : Node) :
    (hopCheck hop n).link = { n.link with mismatch := (hopCheck hop n).link.mismatch } := by
  unfold hopCheck
  repeat' split
  all_goals simp [enterFault, setMismatch]

theorem takeHeader_link (f : Option DownFrame) (n : Node) : (takeHeader f n).link = { n.link with
    address := (takeHeader f n).link.address, accepted := (takeHeader f n).link.accepted
    candidate := (takeHeader f n).link.candidate, mismatch := (takeHeader f n).link.mismatch } := by
  cases f with
  | none => simp only [takeHeader, setMismatch]; rw [takeCode_link]
  | some f => simp only [takeHeader]; rw [hopCheck_link, takeCode_link]

theorem takeControl_link (f : Option DownFrame) (n : Node) : (takeControl f n).link = { n.link with
    address := (takeControl f n).link.address, accepted := (takeControl f n).link.accepted
    candidate := (takeControl f n).link.candidate, mismatch := (takeControl f n).link.mismatch } := by
  unfold takeControl
  repeat' split
  · rw [takeHeader_link]; simp
  · simp only [takeFrameCells_fields]; rw [takeHeader_link]
  · simp only [takeFrameCells_fields]; rw [takeHeader_link]

theorem delayed_link (n : Node) : (delayed n).link = { n.link with
    ampTx := n.link.formed2, formed2 := n.link.formed1, formed1 := none, upPrev := n.link.upNow, upNow := none
    headTx := (sendUpstream (completeBoundary n)).link.headTx } := by
  unfold delayed advanceDelays
  rw [sendUpstream_link, (completeBoundary_outer n).1]

theorem taken_link (f : Option DownFrame) (n : Node) : (taken f n).link = { n.link with
    ampTx := n.link.formed2, formed2 := n.link.formed1, formed1 := none, upPrev := n.link.upNow, upNow := none
    headTx := (sendUpstream (completeBoundary n)).link.headTx
    address := (taken f n).link.address, accepted := (taken f n).link.accepted
    candidate := (taken f n).link.candidate, mismatch := (taken f n).link.mismatch } := by
  have htaken : (taken f n).link = (takeControl f (delayed n)).link := by simp [taken]
  rw [htaken, takeControl_link, delayed_link]

/-- The downstream frame that a frame period forms. -/
def formed (f : Option DownFrame) (n : Node) : DownFrame :=
  formedFrame f (audioFrame (frameSlots f) (taken f n)).2 (taken f n)

/-- R128, R134, R175: the link port after a frame period. -/
theorem framePeriod_port (f : Option DownFrame) (n : Node) :
    (framePeriod f n).link.head = n.link.head ∧ (framePeriod f n).link.amp = n.link.amp ∧
    (framePeriod f n).link.ampTx = n.link.formed2 ∧ (framePeriod f n).link.formed2 = n.link.formed1 ∧
    (framePeriod f n).link.formed1 = some (formed f n) ∧ (framePeriod f n).link.lastHop = (formed f n).hop ∧
    (framePeriod f n).link.headTx = (sendUpstream (completeBoundary n)).link.headTx ∧
    (framePeriod f n).link.upPrev = n.link.upNow ∧ (framePeriod f n).link.upNow = none := by
  have hform : (formFrame f (taken f n)).link =
      { (taken f n).link with formed1 := some (formed f n), lastHop := (formed f n).hop } := by
    simp [formFrame, keepFormed, formed]
  rw [framePeriod_eq, countFrame_link, hform, taken_link]
  exact ⟨rfl, rfl, rfl, rfl, rfl, rfl, rfl, rfl, rfl⟩

/-- What the forming and the counting of a frame leave. -/
theorem framePeriod_stands (f : Option DownFrame) (n : Node) :
    (framePeriod f n).control = (taken f n).control ∧ (framePeriod f n).tables = (taken f n).tables ∧
    (framePeriod f n).live = (taken f n).live ∧ (framePeriod f n).detectors = (taken f n).detectors ∧
    (framePeriod f n).settingLane = (taken f n).settingLane ∧ (framePeriod f n).liveLane = (taken f n).liveLane ∧
    (framePeriod f n).events = (taken f n).events ∧ (framePeriod f n).replies = (taken f n).replies ∧
    (framePeriod f n).merger = (taken f n).merger := by
  rw [framePeriod_eq]
  simp

/-! ### The slots sent -/

section
variable {n : Node} {fs : Vector (Option SpeakerFrame) 24} {slots : Vector Sample 32} {i : Fin 32}

theorem claimant_none (h : ∀ j : Fin 24, n.tables.speakers[j].enabled = true → n.tables.speakers[j].slot ≠ i) :
    claimant n i = none := by
  rw [claimant, List.find?_eq_none]
  intro j _
  simp only [Bool.and_eq_true, beq_iff_eq, not_and]
  exact h j

theorem claimant_some {j : Fin 24} (hj : n.tables.speakers[j].enabled = true) (hs : n.tables.speakers[j].slot = i) :
    ∃ k, claimant n i = some k ∧ n.tables.speakers[k].enabled = true ∧ n.tables.speakers[k].slot = i := by
  have hsome : (claimant n i).isSome = true := by
    rw [claimant, List.find?_isSome]
    exact ⟨j, List.mem_finRange j, by rw [hj, hs]; simp⟩
  obtain ⟨k, hk⟩ := Option.isSome_iff_exists.mp hsome
  have hp := List.find?_some hk
  simp only [Bool.and_eq_true, beq_iff_eq] at hp
  exact ⟨k, hk, hp⟩

/-- R128, R136: a slot that no speaker claims is sent as received, and a passive node claims none. -/
theorem sentSlots_free (h : n.control.node = .passive ∨
    ∀ j : Fin 24, n.tables.speakers[j].enabled = true → n.tables.speakers[j].slot ≠ i) :
    (sentSlots n fs slots)[i] = slots[i] := by
  have hnone : (if n.control.node = .passive then none else claimant n i) = none := by
    rcases h with h | h
    · rw [if_pos h]
    · rw [claimant_none h, ite_self]
  rw [sentSlots, ofFn_at, hnone]

/-- R129: outside QUIET and ACTIVE a claimed slot carries 0. -/
theorem sentSlots_silent (hp : n.control.node ≠ .passive) (ha : audioRuns n.control.node = false) {j : Fin 24}
    (hj : n.tables.speakers[j].enabled = true) (hs : n.tables.speakers[j].slot = i) :
    (sentSlots n fs slots)[i] = 0 := by
  obtain ⟨k, hk, -⟩ := claimant_some hj hs
  rw [sentSlots, ofFn_at, if_neg hp, hk, ha]
  rfl

end

theorem audioRuns_iff {s : NodeState} : audioRuns s = true ↔ s = .quiet ∨ s = .active := by
  cases s <;> simp [audioRuns]

theorem audioFrame_free {n : Node} {slots : Vector Sample 32} {i : Fin 32} (h : n.control.node = .passive ∨
    ∀ j : Fin 24, n.tables.speakers[j].enabled = true → n.tables.speakers[j].slot ≠ i) :
    (audioFrame slots n).2[i] = slots[i] := by
  unfold audioFrame
  split
  · have hcount : (countSlots n).control = n.control ∧ (countSlots n).tables = n.tables := by simp
    dsimp only
    refine sentSlots_free ?_
    rw [hcount.1, hcount.2]
    exact h
  · exact sentSlots_free h

theorem audioFrame_silent {n : Node} {slots : Vector Sample 32} {i : Fin 32} (hp : n.control.node ≠ .passive)
    (ha : audioRuns n.control.node = false) {j : Fin 24} (hj : n.tables.speakers[j].enabled = true)
    (hs : n.tables.speakers[j].slot = i) : (audioFrame slots n).2[i] = 0 := by
  rw [audioFrame, if_neg (by rw [ha]; decide)]
  exact sentSlots_silent hp ha hj hs

/-! ### Received and missed frames -/

theorem exec_downstreamFrame {f : DownFrame} {k : Nat} {n : Node} (q : List Instr) (hl : n.link.head = .locked k) :
    exec (.downstreamFrame f) ⟨n, q⟩ =
      .next ⟨framePeriod (some f) { n with link := { n.link with head := .locked 0 } }, q⟩ := by
  simp only [exec, execDownstreamFrame, answer, frameReceived, hl]
  rfl

theorem exec_missedFrame {k : Nat} {n : Node} (q : List Instr) (hl : n.link.head = .locked k) (hk : k < 3) :
    exec .missedFrame ⟨n, q⟩ =
      .next ⟨framePeriod none { n with link := { n.link with head := .locked (k + 1) } }, q⟩ := by
  simp only [exec, execMissedFrame, answer, frameMissed, hl, if_neg (show ¬ 4 ≤ k + 1 by omega)]
  rfl

/-- Settles O8: the frame formed goes through the two delays, its slots by their claims. -/
theorem receivedFrameIsForwarded : Obligations.ReceivedFrameIsForwarded := by
  unfold Obligations.ReceivedFrameIsForwarded
  intro n q k f hl
  let start : Node := { n with link := { n.link with head := .locked 0 } }
  obtain ⟨hhead, -, hampTx, hformed2, hformed1, hlast, -, -, -⟩ := framePeriod_port (some f) start
  obtain ⟨hcontrol, htables, -⟩ := framePeriod_stands (some f) start
  refine ⟨framePeriod (some f) start, formed (some f) start, exec_downstreamFrame q hl, hhead, hampTx, hformed2,
    hformed1, rfl, hlast, ?_, rfl, rfl, rfl, fun i => ⟨fun hfree => ?_, fun hp hq ha ⟨j, hj, hs⟩ => ?_⟩⟩
  · rw [hcontrol]
    rfl
  · rw [hcontrol, htables] at hfree
    exact audioFrame_free hfree
  · rw [hcontrol] at hp hq ha
    rw [htables] at hj hs
    have hsilent : audioRuns (taken (some f) start).control.node = false := by
      rw [← Bool.not_eq_true, audioRuns_iff]
      exact not_or.mpr ⟨hq, ha⟩
    exact audioFrame_silent hp hsilent hj hs

/-! ### Block peaks -/

/-- What the sample of a source brings to a program's block peak (R11). -/
def memberMagnitude (n : Node) (slots : Vector Sample 32) (p : Fin 4) (i : Fin 12) : Nat :=
  if n.tables.sources[i].enabled = true ∧ n.tables.sources[i].program = p then
    slots[n.tables.sources[i].slot].toInt.natAbs else 0

theorem frameMagnitude_eq (n : Node) (slots : Vector Sample 32) (p : Fin 4) :
    frameMagnitude n slots p = (List.finRange 12).foldl (fun m i => max m (memberMagnitude n slots p i)) 0 := by
  unfold frameMagnitude
  congr 1
  funext m i
  unfold sourceSample memberMagnitude
  by_cases he : n.tables.sources[i].enabled = true
  · rw [if_pos he]
    dsimp only
    by_cases hp : n.tables.sources[i].program = p
    · rw [if_pos hp, if_pos ⟨he, hp⟩]
    · rw [if_neg hp, if_neg fun h => hp h.2, Nat.max_zero]
  · rw [if_neg he, if_neg fun h => he h.1, Nat.max_zero]

/-- A running maximum bounds each value and is the start or one of them. -/
theorem foldl_max_spec {α : Type} (g : α → Nat) (l : List α) (a : Nat) :
    a ≤ l.foldl (fun m i => max m (g i)) a ∧ (∀ i ∈ l, g i ≤ l.foldl (fun m i => max m (g i)) a) ∧
    (l.foldl (fun m i => max m (g i)) a = a ∨ ∃ i ∈ l, l.foldl (fun m i => max m (g i)) a = g i) := by
  induction l generalizing a with
  | nil => simp
  | cons x l ih =>
    obtain ⟨hstart, hmem, hval⟩ := ih (max a (g x))
    rw [List.foldl_cons]
    refine ⟨by omega, fun i hi => ?_, ?_⟩
    · rcases List.mem_cons.mp hi with rfl | hi
      · omega
      · exact hmem i hi
    · rcases hval with hval | ⟨i, hi, hval⟩
      · rcases Nat.le_total (g x) a with h | h
        · left; omega
        · right; exact ⟨x, by simp, by omega⟩
      · exact .inr ⟨i, by simp [hi], hval⟩

theorem frameMagnitude_spec (n : Node) (slots : Vector Sample 32) (p : Fin 4) :
    (∀ i, memberMagnitude n slots p i ≤ frameMagnitude n slots p) ∧
    (frameMagnitude n slots p = 0 ∨ ∃ i, frameMagnitude n slots p = memberMagnitude n slots p i) := by
  rw [frameMagnitude_eq]
  obtain ⟨-, hmem, hval⟩ := foldl_max_spec (memberMagnitude n slots p) (List.finRange 12) 0
  exact ⟨fun i => hmem i (List.mem_finRange i), hval.imp id fun ⟨i, _, h⟩ => ⟨i, h⟩⟩

/-- R11: silence raises no block peak. -/
theorem frameMagnitude_silence (n : Node) (p : Fin 4) : frameMagnitude n (.replicate 32 0) p = 0 := by
  have hzero (i : Fin 12) : memberMagnitude n (.replicate 32 0) p i = 0 := by simp [memberMagnitude]
  obtain ⟨-, h | ⟨i, h⟩⟩ := frameMagnitude_spec n (.replicate 32 0) p
  · exact h
  · rw [h, hzero]

theorem takeSources_outOfService {slots : Vector Sample 32} {n : Node} (h : inService n.control.node = false) :
    takeSources slots n = n := by
  rw [takeSources, if_neg (by rw [h]; decide)]

/-- R11: the block peak of a program after a frame. -/
theorem takeSources_peak {slots : Vector Sample 32} {n : Node} (h : inService n.control.node = true) (p : Fin 4) :
    (takeSources slots n).detectors[p] = { n.detectors[p] with
      peak := max (if n.link.frameInBlock = 0 then 0 else n.detectors[p].peak) (frameMagnitude n slots p) } := by
  rw [takeSources, if_pos h, takePeaks, ofFn_at]

/-! ### The cells of a missed frame -/

/-- A message is in assembly. -/
def inAssembly : Assembly → Bool
  | .assembling _ => true
  | .ready => false
  | .skipping => false

theorem setAssembly_self {l : LaneId} {a : Assembly} {n : Node} (h : (laneOf l n).assembly = a) :
    setAssembly l a n = n := by
  subst h
  cases l <;> rfl

/-- R152: an IDLE cell ends a message in assembly with MALFORMED and leaves the record READY. -/
theorem takeCell_idle (l : LaneId) (n : Node) :
    takeCell l idleCell n = raiseIf (inAssembly (laneOf l n).assembly) .malformed (setAssembly l .ready n) := by
  cases ha : (laneOf l n).assembly with
  | ready => rw [setAssembly_self ha]; simp only [takeCell, ha]; rfl
  | assembling bytes => simp only [takeCell, ha]; rfl
  | skipping => simp only [takeCell, ha]; rfl

/-- The lanes and the flags after two IDLE cells. -/
theorem takeCells_idle {n : Node} (h : inService n.control.node = true) :
    (takeCells idleCell idleCell n).settingLane = { n.settingLane with assembly := .ready } ∧
    (takeCells idleCell idleCell n).liveLane = { n.liveLane with assembly := .ready } ∧
    (takeCells idleCell idleCell n).events =
      if inAssembly n.settingLane.assembly || inAssembly n.liveLane.assembly then n.events ||| 0x4#13
      else n.events := by
  rw [takeCells, if_pos h, takeCell_idle, takeCell_idle, raiseIf_with, raiseIf_with]
  have hbit : eventBit .malformed = 0x4#13 := rfl
  simp only [setAssembly, withLane, laneOf, hbit]
  refine ⟨trivial, trivial, ?_⟩
  cases inAssembly n.settingLane.assembly <;> cases inAssembly n.liveLane.assembly <;>
    simp [BitVec.or_assoc]

/-- A missed frame's header takes the candidate and the mismatch count away. -/
theorem takeHeader_none (n : Node) : takeHeader none n = { n with link := { n.link with
    candidate := if n.control.node = .detached then n.link.candidate else none, mismatch := 0 } } := by
  simp only [takeHeader]
  by_cases hd : n.control.node = .detached
  · rw [takeCode_detached none hd, if_pos hd]; rfl
  · rw [takeCode_none hd, if_neg hd]; rfl

/-- What the start of a frame period leaves of the node. -/
theorem delayed_stands (n : Node) :
    (delayed n).control = (completeBoundary n).control ∧ (delayed n).settingLane = (completeBoundary n).settingLane ∧
    (delayed n).liveLane = (completeBoundary n).liveLane ∧ (delayed n).events = (completeBoundary n).events ∧
    (delayed n).detectors = (completeBoundary n).detectors ∧
    (delayed n).link.frameInBlock = n.link.frameInBlock := by
  have hlink := delayed_link n
  refine ⟨by simp [delayed], by simp [delayed], by simp [delayed], by simp [delayed], by simp [delayed], ?_⟩
  rw [hlink]

/-- The node of a missed frame before the frame is formed: its sources are silence, its cells IDLE. -/
theorem taken_none (n : Node) :
    taken none n = takeSources (.replicate 32 0) (takeCells idleCell idleCell (takeHeader none (delayed n))) := rfl

/-- Outside service a missed frame takes nothing from the lanes, the flags and the detectors. -/
theorem taken_none_outOfService {n : Node} (h : inService (completeBoundary n).control.node = false) :
    (taken none n).settingLane = (completeBoundary n).settingLane ∧
    (taken none n).liveLane = (completeBoundary n).liveLane ∧ (taken none n).events = (completeBoundary n).events ∧
    (taken none n).detectors = (completeBoundary n).detectors := by
  obtain ⟨hcontrol, hsetting, hlive, hevents, hdetectors, -⟩ := delayed_stands n
  have hoff : inService (takeHeader none (delayed n)).control.node = false := by
    rw [takeHeader_none, hcontrol]
    exact h
  have hcells : takeCells idleCell idleCell (takeHeader none (delayed n)) = takeHeader none (delayed n) := by
    rw [takeCells, if_neg (by rw [hoff]; decide)]
  rw [taken_none, hcells, takeSources_outOfService hoff, takeHeader_none]
  exact ⟨hsetting, hlive, hevents, hdetectors⟩

/-- In service the lanes take IDLE cells and no block peak rises. -/
theorem taken_none_inService {n : Node} (h : inService (completeBoundary n).control.node = true) :
    (taken none n).settingLane = { (completeBoundary n).settingLane with assembly := .ready } ∧
    (taken none n).liveLane = { (completeBoundary n).liveLane with assembly := .ready } ∧
    (taken none n).events =
      (if inAssembly (completeBoundary n).settingLane.assembly || inAssembly (completeBoundary n).liveLane.assembly then
        (completeBoundary n).events ||| 0x4#13 else (completeBoundary n).events) ∧
    ∀ p : Fin 4, (taken none n).detectors[p] = { (completeBoundary n).detectors[p] with
      peak := if n.link.frameInBlock = 0 then 0 else (completeBoundary n).detectors[p].peak } := by
  obtain ⟨hcontrol, hsetting, hlive, hevents, hdetectors, hframe⟩ := delayed_stands n
  have hon : inService (takeHeader none (delayed n)).control.node = true := by
    rw [takeHeader_none, hcontrol]
    exact h
  obtain ⟨hsetting', hlive', hevents'⟩ := takeCells_idle hon
  have hcells : inService (takeCells idleCell idleCell (takeHeader none (delayed n))).control.node = true := by
    simpa using hon
  rw [taken_none]
  refine ⟨?_, ?_, ?_, fun p => ?_⟩
  · simp only [takeSources_fields]
    rw [hsetting', takeHeader_none, ← hsetting]
  · simp only [takeSources_fields]
    rw [hlive', takeHeader_none, ← hlive]
  · simp only [takeSources_fields]
    rw [hevents', takeHeader_none, ← hlive, ← hsetting, ← hevents]
  · rw [takeSources_peak hcells, frameMagnitude_silence, Nat.max_zero]
    simp only [takeCells_fields, takeHeader_none, hdetectors, hframe]

theorem inAssembly_of_eq {a : Assembly} {bytes : List Byte} (h : a = .assembling bytes) : inAssembly a = true := by
  rw [h]; rfl

theorem not_inAssembly {a : Assembly} (h : ∀ bytes, a ≠ .assembling bytes) : inAssembly a = false := by
  cases a with
  | ready => rfl
  | assembling bytes => exact absurd rfl (h bytes)
  | skipping => rfl

/-- Settles O9: a missed frame is a frame of code none, IDLE cells and silence. -/
theorem missedFrameIsSubstituted : Obligations.MissedFrameIsSubstituted := by
  unfold Obligations.MissedFrameIsSubstituted
  intro n b q k hl hk hb
  let start : Node := { n with link := { n.link with head := .locked (k + 1) } }
  have hb : completeBoundary start = b := hb.symm
  obtain ⟨hhead, -, hampTx, hformed2, hformed1, hlast, -, -, -⟩ := framePeriod_port none start
  obtain ⟨hcontrol, htables, -, hdetectors, hsetting, hlive, hevents, -, -⟩ := framePeriod_stands none start
  obtain ⟨hacc, hcand, haddr, hmis⟩ := framePeriod_link none start
  have hagree := taken_agree none start
  rw [hb, takeHeader_none] at hagree
  have hlink : b.link = start.link := by rw [← hb]; exact (completeBoundary_outer start).1
  have hcontrol' : (framePeriod none start).control = b.control := hcontrol.trans hagree.control
  have hlasthop : (formed none start).hop = n.link.lastHop := by
    simp only [formed, formedFrame]
    rw [taken_link]
  have hframe : b.link.frameInBlock = start.link.frameInBlock := by rw [hlink]
  refine ⟨framePeriod none start, formed none start, exec_missedFrame q hl hk, hhead, ?_, ?_, ?_, fun hd => ?_, hampTx,
    hformed2, hformed1, hlasthop, hlast, rfl, rfl, rfl, rfl, hcontrol', htables.trans hagree.tables, fun i hi => ?_,
    fun hs => ?_, fun hs => ?_⟩
  · rw [haddr, hagree.address, hlink]
  · rw [hacc, hagree.accepted, hlink]
  · rw [hmis, hagree.mismatch]
  · rw [hcontrol'] at hd
    rw [hcand, hagree.candidate]
    exact if_neg hd
  · rw [hcontrol, htables] at hi
    have hzero : (Vector.replicate 32 (0 : Sample))[i] = 0 := replicate_at _ _
    refine Eq.trans ?_ hzero
    rcases hi with hfree | ⟨hq, ha⟩
    · exact audioFrame_free (.inr hfree)
    · by_cases hclaimed : (taken none start).control.node = .passive ∨ ∀ j : Fin 24,
          (taken none start).tables.speakers[j].enabled = true → (taken none start).tables.speakers[j].slot ≠ i
      · exact audioFrame_free hclaimed
      · push Not at hclaimed
        obtain ⟨hp, j, hj, hs⟩ := hclaimed
        have hsilent : audioRuns (taken none start).control.node = false := by
          rw [← Bool.not_eq_true, audioRuns_iff]
          exact not_or.mpr ⟨hq, ha⟩
        rw [hzero]
        exact audioFrame_silent hp hsilent hj hs
  · obtain ⟨h1, h2, h3, h4⟩ := taken_none_outOfService (n := start) (by rwa [hb])
    rw [hb] at h1 h2 h3 h4
    exact ⟨hsetting.trans h1, hlive.trans h2, hevents.trans h3, hdetectors.trans h4⟩
  · obtain ⟨h1, h2, h3, h4⟩ := taken_none_inService (n := start) (by rwa [hb])
    rw [hb] at h1 h2 h3 h4
    refine ⟨hsetting.trans h1, hlive.trans h2, fun bytes hbytes => ?_, fun hno => ?_, fun p => ?_⟩
    · rw [hevents, h3]
      rcases hbytes with h | h <;> simp [inAssembly_of_eq h]
    · rw [hevents, h3, not_inAssembly fun bytes => (hno bytes).1, not_inAssembly fun bytes => (hno bytes).2]
      rfl
    · rw [hdetectors, h4, hframe]

/-! ### The count of frame periods -/

/-- A frame period of a locked head side, the fourth missed frame in a row apart. -/
theorem exec_period {c : Instr} {k : Nat} (q : List Instr) (hc : c = .missedFrame ∧ k < 3 ∨ ∃ f, c = .downstreamFrame f) :
    ∃ f h, ∀ m : Node, m.link.head = .locked k →
      exec c ⟨m, q⟩ = .next ⟨framePeriod f { m with link := { m.link with head := .locked h } }, q⟩ := by
  obtain ⟨rfl, hk⟩ | ⟨f, rfl⟩ := hc
  · exact ⟨none, k + 1, fun m hm => exec_missedFrame q hm hk⟩
  · exact ⟨some f, 0, fun m hm => exec_downstreamFrame q hm⟩

theorem taken_boundary (f : Option DownFrame) (n : Node) : (taken f n).boundary = [] := by
  have hdelayed : (delayed n).boundary = [] := by
    simp [delayed, completeBoundary_outer]
  rw [taken, (takeSources_outer _ _).2]
  exact (takeControl_outer f (delayed n)).2 hdelayed

theorem inService_iff {s : NodeState} : inService s = true ↔ ¬ (s = .detached ∨ s = .passive) := by
  cases s <;> simp [inService]

theorem sentSlots_congr {n m : Node} (ht : m.tables = n.tables) (hc : m.control = n.control)
    (fs : Vector (Option SpeakerFrame) 24) (slots : Vector Sample 32) : sentSlots m fs slots = sentSlots n fs slots := by
  unfold sentSlots claimant
  simp only [ht, hc]

section
variable {n m : Node} (ht : m.tables = n.tables) (hg : m.levels = n.levels) (he : m.eq = n.eq)
include ht hg he

/-- R8: the frame of the speakers reads the tables, the levels and the EQ state. -/
theorem speakerFrames_congr (slots : Vector Sample 32) : speakerFrames slots m = speakerFrames slots n := by
  unfold speakerFrames speakerFrame premix tapContribution sourceSample equalise slotOf shelfGain
  simp only [ht, hg, he]

theorem countSlots_congr : (countSlots m).tables = (countSlots n).tables ∧
    (countSlots m).levels = (countSlots n).levels ∧ (countSlots m).eq = (countSlots n).eq := by
  simp only [countSlots, ht, hg, he, and_self]

theorem audioFrame_congr (hc : m.control = n.control) (slots : Vector Sample 32) :
    (audioFrame slots m).1.levels = (audioFrame slots n).1.levels ∧
    (audioFrame slots m).1.eq = (audioFrame slots n).1.eq ∧ (audioFrame slots m).2 = (audioFrame slots n).2 := by
  obtain ⟨ht', hg', he'⟩ := countSlots_congr ht hg he
  have hc' : (countSlots m).control = (countSlots n).control := by simp [hc]
  unfold audioFrame
  rw [hc]
  split
  · dsimp only
    rw [speakerFrames_congr ht' hg' he', sentSlots_congr ht' hc']
    simp only [storeFrames, hg', he', and_self]
  · exact ⟨hg, he, sentSlots_congr ht hc _ _⟩

end

theorem Agree.audioFrame {n m : Node} (h : Agree n m) (slots : Vector Sample 32) :
    (audioFrame slots m).1.levels = (audioFrame slots n).1.levels :=
  (audioFrame_congr h.tables h.levels h.eq h.control slots).1

/-- With no boundary standing the header acts on the node as it is. -/
theorem taken_agree_header (f : Option DownFrame) {n : Node} (hb : n.boundary = []) :
    Agree (takeHeader f n) (taken f n) := by
  have h := taken_agree f n
  rwa [completeBoundary_nil n hb] at h

theorem formFrame_levels (f : Option DownFrame) (n : Node) :
    (formFrame f n).levels = (audioFrame (frameSlots f) n).1.levels := by
  simp [formFrame]

/-- R43: the frames before the last of a block leave the levels as the sample path does. -/
theorem framePeriod_levels {f : Option DownFrame} {n : Node} (h : n.link.frameInBlock < 31) :
    (framePeriod f n).levels = (audioFrame (frameSlots f) (taken f n)).1.levels := by
  have hframe : (formFrame f (taken f n)).link.frameInBlock = n.link.frameInBlock := by
    rw [formFrame_link, taken_link]
  rw [framePeriod_eq, countFrame, if_neg (by rw [hframe]; omega)]
  exact formFrame_levels f _

/-- R124: the boundary that a frame period leaves. -/
theorem framePeriod_boundary (f : Option DownFrame) (n : Node) :
    (framePeriod f n).boundary =
      if n.link.frameInBlock < 31 ∨ (framePeriod f n).control.node = .detached ∨
        (framePeriod f n).control.node = .passive then [] else allWorks := by
  have hframe : (formFrame f (taken f n)).link.frameInBlock = n.link.frameInBlock := by
    rw [formFrame_link, taken_link]
  have hform : (formFrame f (taken f n)).boundary = [] := (formFrame_outer f _).2.trans (taken_boundary f n)
  have hcontrol : (framePeriod f n).control = (formFrame f (taken f n)).control := by simp [framePeriod_eq]
  rw [hcontrol]
  rw [framePeriod_eq, countFrame, hframe]
  by_cases hlt : n.link.frameInBlock < 31
  · rw [if_neg (by omega), if_pos (.inl hlt)]
    exact hform
  · rw [if_pos (by omega), openBoundary]
    split
    · rename_i hs
      rw [if_neg (not_or.mpr ⟨hlt, inService_iff.mp hs⟩)]
    · rename_i hs
      rw [inService_iff, not_not] at hs
      rw [if_pos (.inr hs)]
      exact hform

/-- R43: the last frame of a block hands the marks on. -/
theorem framePeriod_marks {f : Option DownFrame} {n : Node} (h : n.link.frameInBlock = 31)
    (hs : inService (framePeriod f n).control.node = true) (j : Fin 24) :
    (framePeriod f n).levels.clips[j] = { (audioFrame (frameSlots f) (taken f n)).1.levels.clips[j] with
      running := false, last := (audioFrame (frameSlots f) (taken f n)).1.levels.clips[j].running } := by
  have hframe : (formFrame f (taken f n)).link.frameInBlock = n.link.frameInBlock := by
    rw [formFrame_link, taken_link]
  have hcontrol : (framePeriod f n).control = (formFrame f (taken f n)).control := by simp [framePeriod_eq]
  rw [hcontrol] at hs
  rw [framePeriod_eq, countFrame, if_pos (by rw [hframe]; omega), openBoundary, if_pos hs]
  simp only [handOverMarks, mapVec_at, formFrame_levels]

theorem framePeriod_count (f : Option DownFrame) (n : Node) :
    (framePeriod f n).link.frameInBlock = (if n.link.frameInBlock < 31 then n.link.frameInBlock + 1 else 0) ∧
    (framePeriod f n).link.block = if n.link.frameInBlock < 31 then n.link.block else n.link.block + 1 := by
  have hlast : 32 ≤ n.link.frameInBlock + 1 ↔ ¬ n.link.frameInBlock < 31 := by omega
  rw [framePeriod_eq, countFrame_link, formFrame_link, taken_link]
  simp only [hlast, ite_not, and_self]

/-- Settles O10: the count, the boundary and the marks of the 32nd frame against those of a 31st. -/
theorem everyThirtySecondFrameOpensABoundary : Obligations.EveryThirtySecondFrameOpensABoundary := by
  unfold Obligations.EveryThirtySecondFrameOpensABoundary
  intro n q k c hl hc
  obtain ⟨f, h, hexec⟩ := exec_period q hc
  let start (m : Node) : Node := { m with link := { m.link with head := .locked h } }
  obtain ⟨hframe, hblock⟩ := framePeriod_count f (start n)
  have hboundary := framePeriod_boundary f (start n)
  have hstart : (start n).link.frameInBlock = n.link.frameInBlock := rfl
  rw [hstart] at hframe hblock hboundary
  refine ⟨framePeriod f (start n), hexec n hl, fun hlt => ?_, fun h31 => ⟨?_, ?_, ?_, fun x hx hb hd hp j => ?_⟩⟩
  · rw [hframe, hblock, hboundary, if_pos hlt, if_pos hlt, if_pos (.inl hlt)]
    exact ⟨rfl, rfl, rfl⟩
  · rw [hframe, if_neg (by omega)]
  · rw [hblock, if_neg (by omega)]
  · rw [hboundary, h31]
    simp only [Nat.lt_irrefl, false_or]
  · let before : Node := { n with link := { n.link with frameInBlock := 30 } }
    have hx : x = framePeriod f (start before) := by
      rw [hexec before hl] at hx
      cases hx
      rfl
    have hagree : Agree (taken f (start before)) (taken f (start n)) := by
      have hstart : Agree (start before) (start n) := by constructor <;> rfl
      exact ((taken_agree_header f (n := start before) hb).symm.trans (hstart.takeHeader f)).trans
        (taken_agree_header f (n := start n) hb)
    have hlevels := framePeriod_levels (f := f) (n := start before) (Nat.lt_succ_self 30)
    have hmarks := framePeriod_marks (f := f) (n := start n) h31 (inService_iff.mpr (not_or.mpr ⟨hd, hp⟩)) j
    rw [hmarks, hx, hlevels, hagree.audioFrame]

end Sys2Proof.Machine
end

section
/-! PROOFS. The upstream frame and the merger through a frame period (R134 to R136, R166 to R168). -/

namespace Sys2Proof.Machine

/-! ### The status field -/

/-- R135: the parts of a status field. -/
theorem statusField_parts (ind : BitVec 3) (att : Bool) (s l : Nat) :
    (statusField ind att s l).extractLsb' 9 3 = ind ∧ (statusField ind att s l).getLsbD 8 = att ∧
    (statusField ind att s l).extractLsb' 5 3 = BitVec.ofNat 3 s ∧
    (statusField ind att s l).extractLsb' 1 4 = BitVec.ofNat 4 l ∧ (statusField ind att s l).getLsbD 0 = false := by
  unfold statusField
  generalize BitVec.ofNat 3 s = x
  generalize BitVec.ofNat 4 l = y
  refine ⟨?_, ?_, ?_, ?_, ?_⟩
  · apply BitVec.eq_of_getLsbD_eq
    intro i hi
    rw [BitVec.getLsbD_extractLsb']
    simp only [BitVec.getLsbD_append]
    interval_cases i <;> simp
  · simp only [BitVec.getLsbD_append]
    simp
  · apply BitVec.eq_of_getLsbD_eq
    intro i hi
    rw [BitVec.getLsbD_extractLsb']
    simp only [BitVec.getLsbD_append]
    interval_cases i <;> simp
  · apply BitVec.eq_of_getLsbD_eq
    intro i hi
    rw [BitVec.getLsbD_extractLsb']
    simp only [BitVec.getLsbD_append]
    interval_cases i <;> simp
  · simp only [BitVec.getLsbD_append]
    simp

/-- R162: the attention bit. -/
theorem attention_iff (n : Node) : attention n = true ↔
    ∃ e : Fin 13, n.events.getLsbD e.val = true ∧ n.tables.nodeEntry.attentionMask.getLsbD e.val = true := by
  rw [attention, bne_iff_ne, ne_eq, ← not_iff_not, not_not, not_exists]
  constructor
  · intro h e he
    have : (n.events &&& n.tables.nodeEntry.attentionMask).getLsbD e.val = true := by simp [he]
    simp [h] at this
  · intro h
    apply BitVec.eq_of_getLsbD_eq
    intro i hi
    have := h ⟨i, hi⟩
    simpa using this

theorem indication_eq {s : NodeState} (hp : s ≠ .passive) (hd : s ≠ .detached) :
    indication s = if s = .starting then 0#3 else if s = .halted then 1#3
      else if s = .quiet then 2#3 else if s = .active then 3#3 else 4#3 := by
  cases s <;> first | rfl | contradiction

/-- R134: the field that an addressed node writes at its position. -/
theorem writtenStatus_own {n : Node} {a : BitVec 3} {p : Fin 4} (ha : n.link.address = some a) (hp : a.toNat = p.val) :
    (writtenStatus n)[p] = ownStatus n := by
  have hlt : a.toNat < 4 := by omega
  have hpos : addressedPosition n = some p := by
    simp only [addressedPosition, ha, dif_pos hlt]
    exact congrArg some (Fin.ext hp)
  rw [writtenStatus, hpos]
  dsimp only
  rw [putVec_at, if_pos rfl]

/-- R134: every other position goes on as received. -/
theorem writtenStatus_other {n : Node} {p : Fin 4} (h : ∀ a, n.link.address = some a → a.toNat ≠ p.val) :
    (writtenStatus n)[p] = (receivedStatus n.link)[p] := by
  unfold writtenStatus
  split
  · rename_i r hr
    have hne : p ≠ r := by
      rintro rfl
      unfold addressedPosition at hr
      split at hr
      · rename_i a ha
        split at hr
        · cases hr
          exact h a ha rfl
        · cases hr
      · cases hr
    rw [putVec_at, if_neg hne]
  · rfl

theorem freeCount_toNat (n : Node) :
    (BitVec.ofNat 3 (freeCount .setting n)).toNat = 4 - n.settingLane.queue.length ∧
    (BitVec.ofNat 4 (freeCount .live n)).toNat = 8 - n.liveLane.queue.length := by
  simp only [freeCount, laneCapacity, laneOf, BitVec.toNat_ofNat]
  omega

/-! ### The upstream frame -/

/-- The upstream frame that a node sends (R134, R136). -/
def upstream (n : Node) : UpFrame :=
  if n.control.node = .passive then
    { reply := (mergerCell n.link).getD idleCell, status := receivedStatus n.link, fill := receivedFill n.link }
  else { reply := (mergerPeriod n).cell, status := writtenStatus n, fill := 0 }

theorem sendUpstream_headTx (n : Node) : (sendUpstream n).link.headTx = some (upstream n) := by
  unfold sendUpstream upstream
  split <;> rfl

/-- Settles O11: the frame sent is that of the node that the boundary leaves. -/
theorem upstreamFrameReportsTheNode : Obligations.UpstreamFrameReportsTheNode := by
  unfold Obligations.UpstreamFrameReportsTheNode
  intro n b q k h c hl hc hb
  have hexec : ∃ f, exec c ⟨n, q⟩ = .next ⟨framePeriod f { n with link := { n.link with head := .locked h } }, q⟩ := by
    obtain ⟨rfl, hk, rfl⟩ | ⟨⟨f, rfl⟩, rfl⟩ := hc
    · exact ⟨none, exec_missedFrame q hl hk⟩
    · exact ⟨some f, exec_downstreamFrame q hl⟩
  obtain ⟨f, hexec⟩ := hexec
  obtain ⟨-, -, -, -, -, -, hhead, hprev, hnow⟩ :=
    framePeriod_port f { n with link := { n.link with head := .locked h } }
  rw [← hb, sendUpstream_headTx] at hhead
  refine ⟨_, upstream b, hexec, hhead, hprev, hnow, fun p hp => ?_, fun p a ha hap hpas hdet => ?_, fun hpas => ?_,
    fun hpas => ?_⟩
  · have hstatus : (upstream b).status[p] = (receivedStatus b.link)[p] := by
      unfold upstream
      split
      · rfl
      · exact writtenStatus_other (hp.resolve_left ‹_›)
    rw [hstatus, receivedStatus]
    cases b.link.amp <;> cases b.link.upPrev
    all_goals first | rfl | exact replicate_at _ _
  · have hstatus : (upstream b).status[p] = ownStatus b := by
      rw [upstream, if_neg hpas]
      exact writtenStatus_own ha hap
    obtain ⟨hind, hatt, hset, hlive, hzero⟩ := statusField_parts (indication b.control.node) (attention b)
      (freeCount .setting b) (freeCount .live b)
    obtain ⟨hfree, hfree'⟩ := freeCount_toNat b
    rw [hstatus, ownStatus, hind, hatt, hset, hlive, hzero, indication_eq hpas hdet]
    exact ⟨rfl, attention_iff b, hfree, hfree', rfl⟩
  · rw [upstream, if_neg hpas]
  · rw [upstream, if_pos hpas]
    refine ⟨mergerCell_getD b.link, ?_⟩
    dsimp only
    unfold receivedFill
    cases b.link.amp <;> cases b.link.upPrev <;> rfl

/-! ### A frame that brings no CLEAR -/

/-- R132: a code other than CLEAR moves no queue and no table. -/
theorem takeCode_noClear {c : Option Code} (hc : c ≠ some .clear) (hop : BitVec 3) (n : Node) :
    (takeCode c hop n).merger = n.merger ∧ (takeCode c hop n).replies = n.replies ∧
    (takeCode c hop n).settingLane = n.settingLane ∧ (takeCode c hop n).liveLane = n.liveLane ∧
    (takeCode c hop n).events = n.events ∧ (takeCode c hop n).detectors = n.detectors := by
  obtain ⟨-, e⟩ | ⟨-, e⟩ | ⟨-, d, hd, -, -, e⟩ := takeCode_cases c hop n
  · rw [e]
    exact ⟨rfl, rfl, rfl, rfl, rfl, rfl⟩
  · rw [e]
    simp
  · rw [e]
    obtain ⟨rfl, -⟩ | ⟨-, e⟩ := acceptCode_cases d hop n
    · exact absurd hd hc
    · rw [e]
      simp

theorem takeHeader_noClear {f : Option DownFrame} (hc : frameCode f ≠ some .clear) (n : Node) :
    (takeHeader f n).merger = n.merger ∧ (takeHeader f n).replies = n.replies ∧
    (takeHeader f n).settingLane = n.settingLane ∧ (takeHeader f n).liveLane = n.liveLane ∧
    (takeHeader f n).events = n.events ∧ (takeHeader f n).detectors = n.detectors := by
  cases f with
  | none => simpa [takeHeader, frameCode] using takeCode_noClear hc 0 n
  | some f => simpa [takeHeader, frameCode] using takeCode_noClear hc f.hop n

theorem clearArrives_noClear {f : Option DownFrame} (hc : frameCode f ≠ some .clear) (n : Node) :
    clearArrives f n = false := by
  cases f with
  | none => rfl
  | some f =>
    have hc : codeOf f.code ≠ some .clear := hc
    simp [clearArrives, hc]

theorem takeControl_noClear {f : Option DownFrame} (hc : frameCode f ≠ some .clear) (n : Node) :
    takeControl f n = takeFrameCells f (takeHeader f n) := by
  rw [takeControl, if_neg (by rw [clearArrives_noClear hc]; decide)]

/-- The merger and the replies after a frame period without CLEAR. -/
theorem framePeriod_merger {f : Option DownFrame} (hc : frameCode f ≠ some .clear) (n : Node) :
    (framePeriod f n).merger = (sendUpstream (completeBoundary n)).merger ∧
    (framePeriod f n).replies = (sendUpstream (completeBoundary n)).replies := by
  obtain ⟨-, -, -, -, -, -, -, hreplies, hmerger⟩ := framePeriod_stands f n
  obtain ⟨hm, hr, -⟩ := takeHeader_noClear hc (delayed n)
  rw [hreplies, hmerger, taken, takeControl_noClear hc]
  simp only [takeSources_fields, takeFrameCells_fields, hm, hr]
  simp [delayed]

/-- The frame periods of R166 and R167 that carry no CLEAR. -/
theorem exec_periodNoClear {c : Instr} {k h : Nat} {n : Node} (q : List Instr) (hl : n.link.head = .locked k)
    (hc : c = .missedFrame ∧ k < 3 ∧ h = k + 1 ∨ (∃ f : DownFrame, c = .downstreamFrame f ∧ f.code ≠ 4) ∧ h = 0) :
    ∃ f, frameCode f ≠ some .clear ∧
      exec c ⟨n, q⟩ = .next ⟨framePeriod f { n with link := { n.link with head := .locked h } }, q⟩ := by
  obtain ⟨rfl, hk, rfl⟩ | ⟨⟨f, rfl, hf⟩, rfl⟩ := hc
  · exact ⟨none, by simp [frameCode], exec_missedFrame q hl hk⟩
  · exact ⟨some f, fun he => hf (codeOf_eq_some.mp he), exec_downstreamFrame q hl⟩

/-- What a node in service sends and keeps in such a period. -/
theorem period_sends {c : Instr} {k h : Nat} {n b : Node} (q : List Instr) (hl : n.link.head = .locked k)
    (hc : c = .missedFrame ∧ k < 3 ∧ h = k + 1 ∨ (∃ f : DownFrame, c = .downstreamFrame f ∧ f.code ≠ 4) ∧ h = 0)
    (hb : b = completeBoundary { n with link := { n.link with head := .locked h } })
    (hs : inService b.control.node = true) :
    ∃ (m : Node) (u : UpFrame), exec c ⟨n, q⟩ = .next ⟨m, q⟩ ∧ m.link.headTx = some u ∧
      u.reply = (mergerPeriod b).cell ∧ m.merger = (mergerPeriod b).merger ∧ m.replies = (mergerPeriod b).replies := by
  obtain ⟨f, hf, hexec⟩ := exec_periodNoClear q hl hc
  obtain ⟨-, -, -, -, -, -, hhead, -, -⟩ := framePeriod_port f { n with link := { n.link with head := .locked h } }
  obtain ⟨hmerger, hreplies⟩ := framePeriod_merger hf { n with link := { n.link with head := .locked h } }
  have hpas : b.control.node ≠ .passive := fun e => by rw [e] at hs; cases hs
  have hown : sendUpstream b = ownUpstream b := if_neg hpas
  rw [← hb, sendUpstream_headTx] at hhead
  rw [← hb, hown] at hmerger hreplies
  refine ⟨_, upstream b, hexec, hhead, ?_, hmerger, hreplies⟩
  rw [upstream, if_neg hpas]

/-! ### The merger -/

/-- The merger after the input of a period, by the table of R166. -/
theorem mergerPeriod_eq {n : Node} {x : List StoreEntry} {i : MergerIn}
    (h : (x, i) = mergerInput n.merger.input ((mergerCell n.link).getD ⟨.idle, 0⟩)) :
    mergerPeriod n =
      mergerSend n.replies { store := n.merger.store ++ x, input := i, output := n.merger.output } := by
  rw [mergerPeriod, mergerTake_cell, ← h]

/-- R167: the next byte of a reply. -/
theorem sendReplyByte_next {pos : Nat} {r : Message} {rest : List Message} {m : Merger}
    (h : pos < (messageBytes r).length) : sendReplyByte pos (r :: rest) m =
      { cell := ⟨if pos + 1 = (messageBytes r).length then .fin else .data, (messageBytes r).getD pos 0⟩
        merger :=
          { m with output := if pos + 1 = (messageBytes r).length then .between else .sendingReply (pos + 1) }
        replies := if pos + 1 = (messageBytes r).length then rest else r :: rest } := by
  have hbyte : (messageBytes r).getD pos 0 = (messageBytes r)[pos] := by
    rw [List.getD_eq_getElem?_getD, List.getElem?_eq_getElem h]
    rfl
  rw [hbyte]
  simp only [sendReplyByte, List.getElem?_eq_getElem h]
  by_cases hlast : pos + 1 = (messageBytes r).length
  · rw [if_neg (by omega), if_pos hlast, if_pos hlast, if_pos hlast]
  · rw [if_pos (by omega), if_neg hlast, if_neg hlast, if_neg hlast]

/-- Settles O12: the period's byte leaves, what arrives accumulates. -/
theorem replyIsSentByteByByte : Obligations.ReplyIsSentByteByByte := by
  unfold Obligations.ReplyIsSentByteByByte
  intro n b q c k h pos r rest x i hl hc hb hs hout hreplies hpos hinput
  obtain ⟨m, u, hexec, hhead, hreply, hmerger, hrest⟩ := period_sends q hl hc hb hs
  refine ⟨m, u, hexec, hhead, ?_⟩
  rw [hreply, hmerger, hrest, mergerPeriod_eq (hinput.trans (congrArg _ (mergerCell_getD b.link).symm)),
    hreplies, hout, mergerSend_sendingReply rfl, sendReplyByte_next hpos]
  exact ⟨rfl, rfl, rfl⟩

/-- R166: what arrives stores nothing exactly where no message is in progress on the input once it is taken. -/
theorem mergerInput_nil (i : MergerIn) (c : Cell) : (mergerInput i c).1 = [] ↔
    i = .skipping ∨ i = .ready ∧ (c.marker = .idle ∨ c.marker = .abort) := by
  obtain ⟨marker, byte⟩ := c
  cases i <;> cases marker <;> simp [mergerInput]
  split <;> simp

theorem mergerInput_notInMessage {i : MergerIn} {c : Cell} (h : (mergerInput i c).1 = []) (k : Nat) :
    (mergerInput i c).2 ≠ .inMessage k := by
  obtain ⟨marker, byte⟩ := c
  rcases (mergerInput_nil i _).mp h with rfl | ⟨rfl, rfl | rfl⟩
  · cases marker <;> simp [mergerInput]
  · simp [mergerInput]
  · simp [mergerInput]

/-- R167: the four conditions of a reply's start. -/
theorem replyMayStart_iff (replies : List Message) (m : Merger) : replyMayStart replies m = true ↔
    m.output = .between ∧ m.store = [] ∧ replies ≠ [] ∧ ∀ k, m.input ≠ .inMessage k := by
  cases hi : m.input <;> simp [replyMayStart, hi, and_assoc]

theorem sendEntry_cons {replies : List Message} {m : Merger} {e : StoreEntry} {rest : List StoreEntry}
    (h : m.store = e :: rest) :
    sendEntry replies m =
      { cell := entryCell e, merger := { m with store := rest, output := afterEntry e }, replies := replies } := by
  simp only [sendEntry, h]

theorem sendEntry_nil {replies : List Message} {m : Merger} (h : m.store = []) :
    sendEntry replies m = { cell := idleCell, merger := m, replies := replies } := by
  simp only [sendEntry, h]

/-- R167: the oldest entry goes before an own reply. -/
theorem mergerSend_entry {replies : List Message} {m : Merger} {e : StoreEntry} {rest : List StoreEntry}
    (ho : m.output = .between ∨ m.output = .sendingPass) (h : m.store = e :: rest) :
    mergerSend replies m =
      { cell := entryCell e, merger := { m with store := rest, output := afterEntry e }, replies := replies } := by
  rw [← sendEntry_cons h]
  rcases ho with ho | ho
  · refine mergerSend_between ho fun hs => ?_
    rw [replyMayStart_iff, h] at hs
    cases hs.2.1
  · exact mergerSend_sendingPass ho

/-- R150, R167: the first byte of a reply. -/
theorem messageBytes_first (r : Message) : (messageBytes r).getD 0 0 = r.dest ++ r.origin := by
  simp [messageBytes, messageBody]

/-- Settles O13, by the output state. -/
theorem passThroughGoesFirst : Obligations.PassThroughGoesFirst := by
  unfold Obligations.PassThroughGoesFirst
  intro n b q c k h x i hl hc hb hs hinput
  obtain ⟨m, u, hexec, hhead, hreply, hmerger, hrest⟩ := period_sends q hl hc hb hs
  have hinput := hinput.trans (congrArg (mergerInput b.merger.input) (mergerCell_getD b.link).symm)
  rw [mergerPeriod_eq hinput] at hreply hmerger hrest
  refine ⟨m, u, hexec, hhead, fun ho e rest hstore => ?_, fun ho hstore => ⟨fun hnone => ?_, fun r rest hr => ?_⟩,
    fun ho => ?_⟩
  · rw [hreply, hmerger, hrest,
      mergerSend_entry (m := { store := b.merger.store ++ x, input := i, output := b.merger.output }) ho hstore]
    cases e <;> exact ⟨rfl, rfl, rfl⟩
  · rw [hreply, hmerger, hrest, hstore, hnone, ho,
      mergerSend_between rfl (by simp [replyMayStart_iff]), sendEntry_nil rfl]
    exact ⟨rfl, rfl, rfl⟩
  · have hx : x = [] := (List.append_eq_nil_iff.mp hstore).2
    have hquiet (k : Nat) : i ≠ .inMessage k := by
      have := mergerInput_notInMessage (i := b.merger.input) (by rw [← hinput]; exact hx) k
      rwa [← hinput] at this
    have hlong : ¬ 0 + 1 = (messageBytes r).length := by rw [messageBytes_length]; omega
    rw [hreply, hmerger, hrest, hstore, hr, ho,
      mergerSend_starts ((replyMayStart_iff _ _).mpr ⟨rfl, rfl, by simp, hquiet⟩),
      sendReplyByte_next (by rw [messageBytes_length]; omega), if_neg hlong, if_neg hlong, if_neg hlong,
      messageBytes_first]
    exact ⟨rfl, rfl, rfl⟩
  · rw [hreply, hmerger, hrest, ho, mergerSend_aborting rfl]
    exact ⟨rfl, rfl, rfl⟩

/-- R167: when a reply is due, by the node before the coming period. -/
theorem replyDue_iff (n : Node) : replyDue n = true ↔
    inService n.control.node = true ∧ n.merger.output = .between ∧ n.merger.store = [] ∧ n.replies ≠ [] ∧
    (n.merger.input = .skipping ∨ n.merger.input = .ready ∧
      (((mergerCell n.link).getD ⟨.idle, 0⟩).marker = .idle ∨ ((mergerCell n.link).getD ⟨.idle, 0⟩).marker = .abort)) := by
  rw [replyDue, Bool.and_eq_true, replyMayStart_iff, mergerTake_cell, ← mergerInput_nil]
  simp only [List.append_eq_nil_iff]
  constructor
  · rintro ⟨hs, ho, ⟨hstore, hx⟩, hr, -⟩
    exact ⟨hs, ho, hstore, hr, hx⟩
  · rintro ⟨hs, ho, hstore, hr, hx⟩
    exact ⟨hs, ho, ⟨hstore, hx⟩, hr, mergerInput_notInMessage hx⟩

theorem mergerCell_some {l : Link} {j : Nat} {v : UpFrame} (ha : l.amp = .locked j) (hp : l.upPrev = some v) :
    (mergerCell l).getD ⟨.idle, 0⟩ = v.reply := by
  simp [mergerCell, ha, hp]

/-- A period's cell is IDLE unless the amp side is LOCKED and a frame was received two periods earlier. -/
theorem mergerCell_cases (l : Link) : (mergerCell l).getD ⟨.idle, 0⟩ = ⟨.idle, 0⟩ ∨
    ∃ (j : Nat) (v : UpFrame), l.amp = .locked j ∧ l.upPrev = some v ∧ (mergerCell l).getD ⟨.idle, 0⟩ = v.reply := by
  unfold mergerCell
  cases l.amp with
  | hunting run => exact .inl rfl
  | locked j =>
    cases l.upPrev with
    | none => exact .inl rfl
    | some v => exact .inr ⟨j, v, rfl, rfl, rfl⟩

/-- Settles O14: the conditions are those of `replyDue`. -/
theorem replyStartsBetweenMessages : Obligations.ReplyStartsBetweenMessages := by
  unfold Obligations.ReplyStartsBetweenMessages
  intro n b q hb
  have hexec : exec .replyStart ⟨n, q⟩ = .next ⟨replyStarts b, q⟩ := by rw [hb]; rfl
  rw [hexec]
  refine ⟨fun hs ho hstore hr hin => ?_, fun hno => ?_⟩
  · have hdue : replyDue b = true := by
      refine (replyDue_iff b).mpr ⟨hs, ho, hstore, hr, hin.imp id fun ⟨hready, hcell⟩ => ⟨hready, ?_⟩⟩
      obtain hidle | ⟨j, v, ha, hp, hv⟩ := mergerCell_cases b.link
      · exact .inl (by rw [hidle])
      · rw [hv]
        exact hcell j v ha hp
    rw [replyStarts, if_pos hdue]
  · rw [replyStarts, if_neg]
    rw [replyDue_iff]
    rintro ⟨hs, ho, hstore, hr, hin⟩
    rcases hno with h | h | h | h | ⟨count, h⟩ | ⟨hready, j, v, ha, hp, hv⟩
    · rw [hs] at h; cases h
    · exact h ho
    · exact h hstore
    · exact hr h
    · rw [h] at hin; rcases hin with h | ⟨h, -⟩ <;> cases h
    · rw [hready, mergerCell_some ha hp] at hin
      rcases hin with h | ⟨-, h | h⟩
      · cases h
      · rw [h] at hv; rcases hv with h | h <;> cases h
      · rw [h] at hv; rcases hv with h | h <;> cases h

end Sys2Proof.Machine
end

section
/-! PROOFS. What a processed frame does to the node: code and hop count, peaks and cells (R11, R132, R147, R151). -/

namespace Sys2Proof.Machine

/-! ### Code and hop count -/

/-- The row of a frame's code, or none, takes the code as the frame does. -/
theorem codeRow_takes {f : DownFrame} {b x : Node} {q : List Instr} (hb : b.boundary = [])
    (hd : b.control.node ≠ .detached)
    (h : (f.code = 0 ∨ 4 < f.code.toNat) ∧ x = { b with link := { b.link with candidate := none } } ∨
      (∃ i : Instr, (f.code = 1 ∧ i = .run ∨ f.code = 2 ∧ i = .quiet ∨ f.code = 3 ∧ i = .halt ∨
        f.code = 4 ∧ i = .clear f.hop) ∧ exec i ⟨b, q⟩ = .next ⟨x, q⟩)) :
    x = takeCode (codeOf f.code) f.hop b := by
  have hrow {i : Instr} {c : Code} {hop : BitVec 3} (hi : exec i ⟨b, q⟩ = .next ⟨x, q⟩)
      (hexec : exec i ⟨b, q⟩ = .next ⟨takeCode (some c) hop (completeBoundary b), q⟩) :
      x = takeCode (some c) hop b := by
    rw [hexec, completeBoundary_nil b hb] at hi
    cases hi
    rfl
  rcases h with ⟨hcode, rfl⟩ | ⟨i, ⟨hcode, rfl⟩ | ⟨hcode, rfl⟩ | ⟨hcode, rfl⟩ | ⟨hcode, rfl⟩, hi⟩
  · have hnone : codeOf f.code = none := by
      rw [Option.eq_none_iff_forall_ne_some]
      intro c hc
      rw [codeOf_eq_some.mp hc] at hcode
      revert hcode
      cases c <;> decide
    rw [hnone, takeCode_none hd]
    rfl
  · rw [hcode]; exact hrow hi rfl
  · rw [hcode]; exact hrow hi rfl
  · rw [hcode]; exact hrow hi rfl
  · rw [hcode]; exact hrow hi rfl

theorem framePeriod_gains (f : Option DownFrame) (n : Node) :
    (framePeriod f n).levels.pairs = (taken f n).levels.pairs ∧
    (framePeriod f n).levels.speakers = (taken f n).levels.speakers := by
  obtain ⟨hp, hs⟩ := countFrame_gains (formFrame f (taken f n))
  obtain ⟨hp', hs'⟩ := audioFrame_gains (frameSlots f) (taken f n)
  rw [formFrame_levels] at hp hs
  exact ⟨hp.trans hp', hs.trans hs'⟩

theorem framePeriod_eqState (f : Option DownFrame) (n : Node) :
    (framePeriod f n).eq = (audioFrame (frameSlots f) (taken f n)).1.eq := by
  simp [framePeriod_eq, formFrame]

/-- Where no audio is formed the EQ state stands. -/
theorem audioFrame_silentEq {slots : Vector Sample 32} {n : Node} (h : audioRuns n.control.node = false) :
    (audioFrame slots n).1.eq = n.eq := by
  rw [audioFrame, if_neg (by rw [h]; decide)]

/-! ### Cells -/

/-- What an operation of a lane comes to: another record of the lane, and flags set. -/
def laneAct (l : LaneId) (x : Lane) (bits : BitVec 13) (n : Node) : Node :=
  withLane l x { n with events := n.events ||| bits }

theorem laneAct_self (l : LaneId) (n : Node) : laneAct l (laneOf l n) 0 n = n := by
  cases l <;> simp [laneAct, withLane, laneOf]

theorem raise_laneAct (l : LaneId) (e : Event) (n : Node) : raise e n = laneAct l (laneOf l n) (eventBit e) n := by
  cases l <;> rfl

theorem enqueue_laneAct (l : LaneId) (m : Message) (n : Node) :
    enqueue l m n = laneAct l { laneOf l n with queue := (laneOf l n).queue ++ [m] } 0 n := by
  cases l <;> simp [laneAct, enqueue, withLane, laneOf]

theorem setAssembly_laneAct (l : LaneId) (a : Assembly) (n : Node) :
    setAssembly l a n = laneAct l { laneOf l n with assembly := a } 0 n := by
  cases l <;> simp [laneAct, setAssembly, withLane, laneOf]

theorem laneAct_laneAct (l : LaneId) (x y : Lane) (a b : BitVec 13) (n : Node) :
    laneAct l y b (laneAct l x a n) = laneAct l y (a ||| b) n := by
  cases l <;> simp [laneAct, withLane, BitVec.or_assoc]

@[simp] theorem laneAct_laneOf (l : LaneId) (x : Lane) (a : BitVec 13) (n : Node) : laneOf l (laneAct l x a n) = x := by
  cases l <;> rfl

@[simp] theorem laneAct_link (l : LaneId) (x : Lane) (a : BitVec 13) (n : Node) : (laneAct l x a n).link = n.link := by
  cases l <;> rfl

@[simp] theorem laneAct_events (l : LaneId) (x : Lane) (a : BitVec 13) (n : Node) :
    (laneAct l x a n).events = n.events ||| a := by
  cases l <;> rfl

/-- Nodes with the same record of a lane and the same address take the same lane operation. -/
def ActsOnLane (l : LaneId) (n : Node) (op : Node → Node) : Prop :=
  ∃ x bits, ∀ m : Node, laneOf l m = laneOf l n → m.link.address = n.link.address → op m = laneAct l x bits m

theorem ActsOnLane.id (l : LaneId) (n : Node) : ActsOnLane l n fun m => m :=
  ⟨laneOf l n, 0, fun m hl _ => by rw [← hl, laneAct_self]⟩

theorem ActsOnLane.raise (l : LaneId) (n : Node) (e : Event) : ActsOnLane l n (raise e) :=
  ⟨laneOf l n, eventBit e, fun m hl _ => by rw [raise_laneAct l, hl]⟩

theorem ActsOnLane.setAssembly (l : LaneId) (n : Node) (a : Assembly) : ActsOnLane l n (setAssembly l a) :=
  ⟨_, 0, fun m hl _ => by rw [setAssembly_laneAct, hl]⟩

/-- One lane operation after another is one. -/
theorem ActsOnLane.comp {l : LaneId} {n : Node} {f g : Node → Node} (hf : ActsOnLane l n f)
    (hg : ActsOnLane l (f n) g) : ActsOnLane l n fun m => g (f m) := by
  obtain ⟨x, a, hf⟩ := hf
  obtain ⟨y, b, hg⟩ := hg
  refine ⟨y, a ||| b, fun m hl ha => ?_⟩
  rw [hf n rfl rfl] at hg
  dsimp only
  rw [hf m hl ha, hg _ (by simp) (by simpa using ha), laneAct_laneAct]

/-- R153: a judgement reads the lane and the address. -/
theorem judgeMessage_actsOnLane (l : LaneId) (bytes : List Byte) (n : Node) :
    ActsOnLane l n (judgeMessage l bytes) := by
  have hhere (x : Message) (m : Node) (ha : m.link.address = n.link.address) :
      addressedHere m x = addressedHere n x := by
    simp only [addressedHere, addressNibble, ha]
  unfold judgeMessage
  split
  · split
    · split
      · rename_i x _
        unfold admitMessage
        by_cases hto : addressedHere n x = true
        · by_cases hroom : laneCapacity l ≤ (laneOf l n).queue.length
          · refine ⟨laneOf l n, eventBit (overrunEvent l), fun m hl ha => ?_⟩
            dsimp only
            rw [hhere x m ha, if_pos hto, hl, if_pos hroom, raise_laneAct l, hl]
          · refine ⟨{ laneOf l n with queue := (laneOf l n).queue ++ [x] }, 0, fun m hl ha => ?_⟩
            dsimp only
            rw [hhere x m ha, if_pos hto, hl, if_neg hroom, enqueue_laneAct, hl]
        · refine ⟨laneOf l n, 0, fun m hl ha => ?_⟩
          dsimp only
          rw [hhere x m ha, if_neg hto, ← hl, laneAct_self]
      · exact .id l n
    · exact .raise l n _
  · exact .raise l n _

/-- R152: a cell reads its lane and the address. -/
theorem takeCell_actsOnLane (l : LaneId) (c : Cell) (n : Node) : ActsOnLane l n (takeCell l c) := by
  have key (op : Node → Node) (hop : ActsOnLane l n op) (h : ∀ m, laneOf l m = laneOf l n → takeCell l c m = op m) :
      ActsOnLane l n (takeCell l c) := by
    obtain ⟨x, bits, hx⟩ := hop
    exact ⟨x, bits, fun m hl ha => (h m hl).trans (hx m hl ha)⟩
  obtain ⟨marker, byte⟩ := c
  cases ha : (laneOf l n).assembly with
  | ready =>
    cases marker with
    | idle => exact key _ (.id l n) fun m hl => by simp only [takeCell, hl, ha]
    | data => exact key _ (.setAssembly l n (.assembling [byte])) fun m hl => by simp only [takeCell, hl, ha]
    | fin => exact key _ (judgeMessage_actsOnLane l [byte] n) fun m hl => by simp only [takeCell, hl, ha]
    | abort => exact key _ (.id l n) fun m hl => by simp only [takeCell, hl, ha]
  | assembling bytes =>
    have hready := ActsOnLane.setAssembly l n .ready
    cases marker with
    | idle => exact key _ (hready.comp (.raise l _ .malformed)) fun m hl => by simp only [takeCell, hl, ha]
    | data =>
      by_cases hlt : bytes.length < 132
      · exact key _ (.setAssembly l n (.assembling (bytes ++ [byte]))) fun m hl => by
          simp only [takeCell, hl, ha, if_pos hlt]
      · exact key _ ((ActsOnLane.setAssembly l n .skipping).comp (.raise l _ .malformed)) fun m hl => by
          simp only [takeCell, hl, ha, if_neg hlt]
    | fin =>
      by_cases hlt : bytes.length < 132
      · exact key _ (hready.comp (judgeMessage_actsOnLane l (bytes ++ [byte]) _)) fun m hl => by
          simp only [takeCell, hl, ha, if_pos hlt]
      · exact key _ (hready.comp (.raise l _ .malformed)) fun m hl => by simp only [takeCell, hl, ha, if_neg hlt]
    | abort => exact key _ hready fun m hl => by simp only [takeCell, hl, ha]
  | skipping =>
    have hready := ActsOnLane.setAssembly l n .ready
    cases marker with
    | idle => exact key _ hready fun m hl => by simp only [takeCell, hl, ha]
    | data => exact key _ (.id l n) fun m hl => by simp only [takeCell, hl, ha]
    | fin => exact key _ hready fun m hl => by simp only [takeCell, hl, ha]
    | abort => exact key _ hready fun m hl => by simp only [takeCell, hl, ha]

/-- R151: two nodes with the same lanes, flags and address, both in service, take a frame's cells alike. -/
theorem takeCells_lanes {n m : Node} (hs : m.settingLane = n.settingLane) (hl : m.liveLane = n.liveLane)
    (he : m.events = n.events) (ha : m.link.address = n.link.address) (hm : inService m.control.node = true)
    (a b : Cell) :
    (takeCells a b m).settingLane = (takeCell .setting a n).settingLane ∧
    (takeCells a b m).liveLane = (takeCell .live b n).liveLane ∧
    (takeCells a b m).events = (takeCell .live b (takeCell .setting a n)).events := by
  obtain ⟨x, c, hx⟩ := takeCell_actsOnLane .setting a n
  obtain ⟨y, d, hy⟩ := takeCell_actsOnLane .live b n
  rw [takeCells, if_pos hm, hx m hs ha, hx n rfl rfl, hy n rfl rfl,
    hy (laneAct .setting x c m) hl (by simpa using ha), hy (laneAct .setting x c n) rfl (by simp)]
  exact ⟨rfl, rfl, by simp [he]⟩

/-! ### A frame in which CLEAR is not accepted -/

/-- CLEAR is not accepted in the frame. -/
def NoClear (f : DownFrame) (n : Node) : Prop :=
  f.code ≠ 4 ∨ n.link.candidate ≠ some .clear ∨ n.link.accepted = .clear

theorem moveByCode_inService (c : Code) (n : Node) :
    inService (moveByCode c n).control.node = inService n.control.node := by
  unfold moveByCode
  split
  · rename_i he
    have hs := inService_of_executorRuns he
    cases c <;> simp [stateOfCode, moveTo, hs] <;> rfl
  · rfl

theorem hopCheck_inService (hop : BitVec 3) (n : Node) :
    inService (hopCheck hop n).control.node = inService n.control.node ∧
    (hopCheck hop n).link.address = n.link.address := by
  refine ⟨?_, by rw [hopCheck_link]⟩
  unfold hopCheck
  split
  · rename_i hr
    have hs : inService n.control.node = true := by
      revert hr
      cases n.control.node <;> simp [hopCheckRuns, inService]
    repeat' split
    all_goals simp [enterFault, hs]
    rfl
  · rfl

/-- A code whose CLEAR is not accepted leaves the node in service or out of it, with its lanes, tables and address. -/
theorem takeCode_stands {f : DownFrame} {n : Node} (h : NoClear f n) :
    inService (takeCode (codeOf f.code) f.hop n).control.node = inService n.control.node ∧
    (takeCode (codeOf f.code) f.hop n).link.address = n.link.address ∧
    (takeCode (codeOf f.code) f.hop n).tables = n.tables ∧
    (takeCode (codeOf f.code) f.hop n).settingLane = n.settingLane ∧
    (takeCode (codeOf f.code) f.hop n).liveLane = n.liveLane ∧
    (takeCode (codeOf f.code) f.hop n).events = n.events ∧
    (takeCode (codeOf f.code) f.hop n).detectors = n.detectors := by
  obtain ⟨-, e⟩ | ⟨-, e⟩ | ⟨-, d, hd, hcand, hacc, e⟩ := takeCode_cases (codeOf f.code) f.hop n
  · rw [e]
    exact ⟨rfl, rfl, rfl, rfl, rfl, rfl, rfl⟩
  · rw [e]
    simp
  · rw [e]
    obtain ⟨rfl, -⟩ | ⟨-, e⟩ := acceptCode_cases d f.hop n
    · rcases h with h | h | h
      · exact absurd (codeOf_eq_some.mp hd) h
      · exact absurd hcand h
      · exact absurd h hacc
    · rw [e]
      simp [moveByCode_inService]

theorem takeHeader_stands {f : DownFrame} {n : Node} (h : NoClear f n) :
    inService (takeHeader (some f) n).control.node = inService n.control.node ∧
    (takeHeader (some f) n).link.address = n.link.address ∧ (takeHeader (some f) n).tables = n.tables ∧
    (takeHeader (some f) n).settingLane = n.settingLane ∧ (takeHeader (some f) n).liveLane = n.liveLane ∧
    (takeHeader (some f) n).events = n.events ∧ (takeHeader (some f) n).detectors = n.detectors := by
  obtain ⟨hs, ha⟩ := hopCheck_inService f.hop (takeCode (codeOf f.code) f.hop n)
  obtain ⟨hs', ha', hrest⟩ := takeCode_stands h
  refine ⟨hs.trans hs', ha.trans ha', ?_⟩
  simpa [takeHeader] using hrest

theorem clearArrives_of_noClear {f : DownFrame} {n : Node} (h : NoClear f n) : clearArrives (some f) n = false := by
  rw [← Bool.not_eq_true]
  intro hc
  simp only [clearArrives, Bool.and_eq_true, beq_iff_eq] at hc
  obtain ⟨hcode, hacc⟩ := hc
  rw [hcode] at hacc
  simp only [codeAccepted, Bool.and_eq_true, beq_iff_eq, bne_iff_ne] at hacc
  obtain ⟨-, hcand, hacc⟩ := hacc
  rcases h with h | h | h
  · exact h (codeOf_eq_some.mp hcode)
  · exact h hcand
  · exact hacc h

/-- The node of a frame without an accepted CLEAR before its downstream frame is formed. -/
theorem taken_noClear {f : DownFrame} {n : Node} (h : NoClear f (completeBoundary n)) :
    taken (some f) n = takeSources f.slots (takeCells f.setting f.live (takeHeader (some f) (delayed n))) := by
  have hagree := delayed_agree n
  have h' : NoClear f (delayed n) := by
    rw [NoClear, hagree.candidate, hagree.accepted]
    exact h
  rw [taken, takeControl, if_neg (by rw [clearArrives_of_noClear h']; decide)]
  rfl

/-- R151: what the lanes take of a processed frame. -/
theorem taken_lanes {f : DownFrame} {n b : Node} (hb : b = completeBoundary n) (h : NoClear f b)
    (hs : inService b.control.node = true) :
    (taken (some f) n).settingLane = (takeCell .setting f.setting b).settingLane ∧
    (taken (some f) n).liveLane = (takeCell .live f.live b).liveLane ∧
    (taken (some f) n).events = (takeCell .live f.live (takeCell .setting f.setting b)).events := by
  subst hb
  obtain ⟨hcontrol, hsetting, hlive, hevents, -, -⟩ := delayed_stands n
  have hagree := delayed_agree n
  have h' : NoClear f (delayed n) := by
    rw [NoClear, hagree.candidate, hagree.accepted]
    exact h
  obtain ⟨hs', ha, -, hsetting', hlive', hevents', -⟩ := takeHeader_stands h'
  rw [taken_noClear h]
  simp only [takeSources_fields]
  exact takeCells_lanes (hsetting'.trans hsetting) (hlive'.trans hlive) (hevents'.trans hevents)
    (ha.trans hagree.address) (by rw [hs', hcontrol]; exact hs) _ _

/-- R11: the block peaks after a processed frame. -/
theorem taken_peak {f : DownFrame} {n b : Node} (hb : b = completeBoundary n) (h : NoClear f b)
    (hs : inService b.control.node = true) (p : Fin 4) :
    (taken (some f) n).detectors[p] = { b.detectors[p] with
      peak := max (if b.link.frameInBlock = 0 then 0 else b.detectors[p].peak) (frameMagnitude b f.slots p) } := by
  subst hb
  obtain ⟨hcontrol, -, -, -, hdetectors, hframe⟩ := delayed_stands n
  have hagree := delayed_agree n
  have h' : NoClear f (delayed n) := by
    rw [NoClear, hagree.candidate, hagree.accepted]
    exact h
  obtain ⟨hs', -, htables, -, -, -, hdetectors'⟩ := takeHeader_stands h'
  have hframe' : (takeHeader (some f) (delayed n)).link.frameInBlock = (completeBoundary n).link.frameInBlock := by
    rw [takeHeader_link, (completeBoundary_outer n).1]
    exact hframe
  have hmagnitude : frameMagnitude (takeCells f.setting f.live (takeHeader (some f) (delayed n))) f.slots p =
      frameMagnitude (completeBoundary n) f.slots p := by
    unfold frameMagnitude sourceSample
    simp only [takeCells_fields, htables, hagree.tables]
  rw [taken_noClear h, takeSources_peak (by simpa [hs', hcontrol] using hs), hmagnitude]
  simp only [takeCells_fields, hdetectors', hdetectors, hframe']

theorem taken_outOfService {f : DownFrame} {n b : Node} (hb : b = completeBoundary n) (h : NoClear f b)
    (hs : inService b.control.node = false) :
    (taken (some f) n).settingLane = b.settingLane ∧ (taken (some f) n).liveLane = b.liveLane ∧
    (taken (some f) n).events = b.events ∧ (taken (some f) n).detectors = b.detectors := by
  subst hb
  obtain ⟨hcontrol, hsetting, hlive, hevents, hdetectors, -⟩ := delayed_stands n
  have hagree := delayed_agree n
  have h' : NoClear f (delayed n) := by
    rw [NoClear, hagree.candidate, hagree.accepted]
    exact h
  obtain ⟨hs', -, -, hsetting', hlive', hevents', hdetectors'⟩ := takeHeader_stands h'
  have hoff : inService (takeHeader (some f) (delayed n)).control.node = false := by rw [hs', hcontrol]; exact hs
  have hcells : takeCells f.setting f.live (takeHeader (some f) (delayed n)) = takeHeader (some f) (delayed n) := by
    rw [takeCells, if_neg (by rw [hoff]; decide)]
  rw [taken_noClear h, hcells, takeSources_outOfService hoff]
  exact ⟨hsetting'.trans hsetting, hlive'.trans hlive, hevents'.trans hevents, hdetectors'.trans hdetectors⟩

/-! ### A frame in which CLEAR is accepted -/

/-- CLEAR is accepted in the frame. -/
structure ClearTaken (f : DownFrame) (n : Node) : Prop where
  attached : n.control.node ≠ .detached
  code : f.code = 4
  candidate : n.link.candidate = some .clear
  accepted : n.link.accepted ≠ .clear

theorem ClearTaken.agree {f : DownFrame} {n m : Node} (h : ClearTaken f n) (hm : Agree n m) : ClearTaken f m :=
  ⟨by rw [hm.control]; exact h.attached, h.code, by rw [hm.candidate]; exact h.candidate,
    by rw [hm.accepted]; exact h.accepted⟩

/-- The lanes, the flags, the detectors and the tables are as the acceptance of CLEAR leaves them. -/
structure Cleared (f : DownFrame) (n m : Node) : Prop where
  settingLane : m.settingLane = clearLane (stateOfAddress f.hop) n.settingLane
  liveLane : m.liveLane = clearLane (stateOfAddress f.hop) n.liveLane
  events : m.events = 0
  detectors : m.detectors = ({} : Node).detectors
  tables : m.tables = {}

theorem takeHeader_clear {f : DownFrame} {n : Node} (h : ClearTaken f n) : Cleared f n (takeHeader (some f) n) := by
  have hcode : codeOf f.code = some .clear := codeOf_eq_some.mpr h.code
  have haccepts := takeCode_accepts (hop := f.hop) h.attached h.candidate h.accepted
  simp only [takeHeader, hcode]
  rw [haccepts]
  constructor <;> simp [acceptCode, clearNode]

/-- R152: after CLEAR no message is in assembly, so that no cell queues a message; an END cell on a READY lane is a
message of one byte (log entry 34). -/
theorem takeCell_cleared {l : LaneId} {c : Cell} {n : Node} {lane : Lane} {s : NodeState}
    (h : laneOf l n = clearLane s lane) :
    ∃ a bits, takeCell l c n = laneAct l { assembly := a, queue := [] } bits n ∧
      (bits = 0 ∨ lane.assembly = .ready ∧ c.marker = .fin) := by
  have hq : (laneOf l n).queue = [] := by rw [h]; rfl
  have hself : n = laneAct l { assembly := (laneOf l n).assembly, queue := [] } 0 n := by
    rw [← hq]
    exact (laneAct_self l n).symm
  have hput (a : Assembly) : setAssembly l a n = laneAct l { assembly := a, queue := [] } 0 n := by
    rw [setAssembly_laneAct, ← hq]
  obtain ⟨marker, byte⟩ := c
  cases ha : (laneOf l n).assembly with
  | ready =>
    have hready : lane.assembly = .ready := by
      rw [h, clearLane] at ha
      dsimp only at ha
      split at ha
      · cases ha
      · cases hl : lane.assembly with
        | ready => rfl
        | assembling bytes => rw [hl] at ha; cases ha
        | skipping => rw [hl] at ha; cases ha
    cases marker with
    | idle => exact ⟨_, 0, by simp only [takeCell, ha]; exact hself, .inl rfl⟩
    | data => exact ⟨.assembling [byte], 0, by simp only [takeCell, ha]; exact hput _, .inl rfl⟩
    | fin =>
      refine ⟨(laneOf l n).assembly, eventBit .malformed, ?_, .inr ⟨hready, rfl⟩⟩
      have hshort : judgeMessage l [byte] n = raise .malformed n := rfl
      simp only [takeCell, ha, hshort]
      rw [raise_laneAct l, ← ha, ← hq]
    | abort => exact ⟨_, 0, by simp only [takeCell, ha]; exact hself, .inl rfl⟩
  | assembling bytes =>
    rw [h, clearLane] at ha
    dsimp only at ha
    split at ha
    · cases ha
    · cases hl : lane.assembly with
      | ready => rw [hl] at ha; cases ha
      | assembling bytes => rw [hl] at ha; cases ha
      | skipping => rw [hl] at ha; cases ha
  | skipping =>
    cases marker with
    | idle => exact ⟨.ready, 0, by simp only [takeCell, ha]; exact hput _, .inl rfl⟩
    | data => exact ⟨_, 0, by simp only [takeCell, ha]; exact hself, .inl rfl⟩
    | fin => exact ⟨.ready, 0, by simp only [takeCell, ha]; exact hput _, .inl rfl⟩
    | abort => exact ⟨.ready, 0, by simp only [takeCell, ha]; exact hput _, .inl rfl⟩

/-- What stands after the frame in which CLEAR is accepted, its cells taken before or after. -/
theorem takeControl_clear {f : DownFrame} {n : Node} (h : ClearTaken f n) :
    (takeControl (some f) n).settingLane.queue = [] ∧ (takeControl (some f) n).liveLane.queue = [] ∧
    (takeControl (some f) n).detectors = ({} : Node).detectors ∧ (takeControl (some f) n).tables = {} ∧
    ((takeControl (some f) n).events = 0 ∨ n.settingLane.assembly = .ready ∧ f.setting.marker = .fin ∨
      n.liveLane.assembly = .ready ∧ f.live.marker = .fin) := by
  have hchoice : ClearTaken f { n with choice := n.choice + 1 } := h.agree (by constructor <;> rfl)
  have hafter {m : Node} (hm : ClearTaken f m) :
      (takeHeader (some f) m).settingLane.queue = [] ∧ (takeHeader (some f) m).liveLane.queue = [] := by
    have hcleared := takeHeader_clear hm
    rw [hcleared.settingLane, hcleared.liveLane]
    exact ⟨rfl, rfl⟩
  have hheader : Cleared f n (takeHeader (some f) n) := takeHeader_clear h
  have hlater {m : Node} (hm : Cleared f n m) :
      (takeFrameCells (some f) m).settingLane.queue = [] ∧ (takeFrameCells (some f) m).liveLane.queue = [] ∧
      ((takeFrameCells (some f) m).events = 0 ∨ n.settingLane.assembly = .ready ∧ f.setting.marker = .fin ∨
        n.liveLane.assembly = .ready ∧ f.live.marker = .fin) := by
    obtain ⟨a, c, hx, hc⟩ := takeCell_cleared (l := .setting) (c := f.setting) hm.settingLane
    have hlive : laneOf .live (laneAct .setting { assembly := a, queue := [] } c m) =
        clearLane (stateOfAddress f.hop) n.liveLane := hm.liveLane
    obtain ⟨b, d, hy, hd⟩ := takeCell_cleared (l := .live) (c := f.live) hlive
    simp only [takeFrameCells, takeCells]
    split
    · rw [hx, hy]
      refine ⟨rfl, rfl, ?_⟩
      rcases hc with rfl | hc
      · rcases hd with rfl | hd
        · left; simp [hm.events]
        · exact .inr (.inr hd)
      · exact .inr (.inl hc)
    · rw [hm.settingLane, hm.liveLane]
      exact ⟨rfl, rfl, .inl hm.events⟩
  unfold takeControl
  repeat' split
  · have hcells := hchoice.agree (takeFrameCells_agree (some f) _)
    have hcleared := takeHeader_clear hcells
    exact ⟨(hafter hcells).1, (hafter hcells).2, hcleared.detectors, hcleared.tables, .inl hcleared.events⟩
  · have hcleared : Cleared f n (takeHeader (some f) { n with choice := n.choice + 1 }) := by
      have := takeHeader_clear hchoice
      exact ⟨this.settingLane, this.liveLane, this.events, this.detectors, this.tables⟩
    obtain ⟨h1, h2, h3⟩ := hlater hcleared
    exact ⟨h1, h2, by simp [hcleared.detectors], by simp [hcleared.tables], h3⟩
  · obtain ⟨h1, h2, h3⟩ := hlater hheader
    exact ⟨h1, h2, by simp [hheader.detectors], by simp [hheader.tables], h3⟩

/-- R11: with no source enabled no block peak rises from 0. -/
theorem takeSources_cleared {slots : Vector Sample 32} {n : Node} (hd : n.detectors = ({} : Node).detectors)
    (ht : n.tables = {}) : (takeSources slots n).detectors = ({} : Node).detectors := by
  unfold takeSources
  split
  · apply vector_eq
    intro p
    have hzero (i : Fin 12) : memberMagnitude n slots p i = 0 := by
      rw [memberMagnitude, if_neg]
      rintro ⟨he, -⟩
      rw [ht, replicate_at] at he
      cases he
    have hmag : frameMagnitude n slots p = 0 := by
      obtain ⟨-, h | ⟨i, h⟩⟩ := frameMagnitude_spec n slots p
      · exact h
      · rw [h, hzero]
    rw [takePeaks, ofFn_at, hmag, hd, replicate_at]
    simp
  · exact hd

/-- Settles O34: the header acts as the rows of its code and of the hop count, the sources and the cells as in
`taken_peak` and `taken_lanes`, or as after CLEAR. -/
theorem frameTakesCodeHopCountPeaksAndCells : Obligations.FrameTakesCodeHopCountPeaksAndCells := by
  unfold Obligations.FrameTakesCodeHopCountPeaksAndCells
  refine ⟨fun n b x y q k f hl hb hd hx hy => ?_, fun n b q k f hl hb => ?_⟩
  · have hboundary : b.boundary = [] := by rw [hb]; exact (completeBoundary_outer _).2
    have hx := codeRow_takes hboundary hd hx
    have hy : y = takeHeader (some f) b := by
      have hxb : x.boundary = [] := by rw [hx]; exact (takeCode_outer _ _ _).2 hboundary
      have hexec : exec (.hopMismatchFault f.hop) ⟨x, q⟩ = .next ⟨hopCheck f.hop (completeBoundary x), q⟩ := rfl
      rw [hexec, completeBoundary_nil x hxb] at hy
      cases hy
      rw [hx]
      rfl
    obtain ⟨hcontrol, htables, hlive, -⟩ :=
      framePeriod_stands (some f) { n with link := { n.link with head := .locked 0 } }
    obtain ⟨hacc, hcand, haddr, hmis⟩ := framePeriod_link (some f) { n with link := { n.link with head := .locked 0 } }
    obtain ⟨hpairs, hspeakers⟩ := framePeriod_gains (some f) { n with link := { n.link with head := .locked 0 } }
    have heq := framePeriod_eqState (some f) { n with link := { n.link with head := .locked 0 } }
    have hagree := taken_agree (some f) { n with link := { n.link with head := .locked 0 } }
    rw [← hb, ← hy] at hagree
    refine ⟨_, exec_downstreamFrame q hl, hcontrol.trans hagree.control, hacc.trans hagree.accepted,
      hcand.trans hagree.candidate, haddr.trans hagree.address, hmis.trans hagree.mismatch,
      htables.trans hagree.tables, hlive.trans hagree.live, ?_, ?_, fun hq ha => ?_⟩
    · rw [hpairs, hagree.levels]
    · rw [hspeakers, hagree.levels]
    · rw [heq, audioFrame_silentEq, hagree.eq]
      rw [hagree.control, ← Bool.not_eq_true, audioRuns_iff]
      exact not_or.mpr ⟨hq, ha⟩
  · obtain ⟨-, -, -, hdetectors, hsetting, hlive, hevents, -, -⟩ :=
      framePeriod_stands (some f) { n with link := { n.link with head := .locked 0 } }
    refine ⟨_, exec_downstreamFrame q hl, fun hno => ⟨fun hs => ?_, fun hs => ?_⟩, fun hd hcode hcand hacc => ?_⟩
    · obtain ⟨h1, h2, h3⟩ := taken_lanes hb hno hs
      refine ⟨hsetting.trans h1, hlive.trans h2, hevents.trans h3, fun p start hstart => ?_⟩
      have hpeak := taken_peak hb hno hs p
      obtain ⟨hmem, hval⟩ := frameMagnitude_spec b f.slots p
      rw [hdetectors, hpeak, ← hstart]
      refine ⟨rfl, le_max_left _ _, fun i he hp => ?_, ?_⟩
      · have hi := hmem i
        rw [memberMagnitude, if_pos ⟨he, hp⟩] at hi
        exact hi.trans (le_max_right _ _)
      · dsimp only
        rcases Nat.le_total (frameMagnitude b f.slots p) start with hle | hle
        · exact .inl (max_eq_left hle)
        · rw [max_eq_right hle]
          rcases hval with h0 | ⟨i, hi⟩
          · left; omega
          · rw [memberMagnitude] at hi
            split at hi
            · rename_i hmember
              exact .inr ⟨i, hmember.1, hmember.2, hi⟩
            · left; omega
    · obtain ⟨h1, h2, h3, h4⟩ := taken_outOfService hb hno hs
      exact ⟨hsetting.trans h1, hlive.trans h2, hevents.trans h3, hdetectors.trans h4⟩
    · have hagree := delayed_agree { n with link := { n.link with head := .locked 0 } }
      obtain ⟨-, hsetting', hlive', -⟩ := delayed_stands { n with link := { n.link with head := .locked 0 } }
      rw [← hb] at hagree hsetting' hlive'
      have hclear : ClearTaken f b := ⟨hd, hcode, hcand, hacc⟩
      obtain ⟨h1, h2, h3, h4, h5⟩ := takeControl_clear (hclear.agree hagree)
      rw [hsetting, hlive, hevents, hdetectors, taken]
      simp only [takeSources_fields]
      rw [hsetting', hlive'] at h5
      exact ⟨h1, h2, takeSources_cleared h3 h4, h5⟩

end Sys2Proof.Machine
end

section
/-! PROOFS. The sample of an enabled speaker in a frame that moves no state (R7, R8, R42, R43, R72, R85, R94). -/

namespace Sys2Proof.Machine

/-! ### The arithmetic of the sample path -/

theorem clampWorking_eq (x : Int) : clampWorking x = max (-134217728) (min 134217727 x) := rfl

theorem outputExact_eq (z : Int) (l : Nat) : outputExact z l = (z * l + 2097152) / 4194304 := rfl

theorem bitVec_eq_zero_iff {w : Nat} (a : BitVec w) : a = 0 ↔ a.toNat = 0 := by
  rw [BitVec.toNat_eq]
  rfl

theorem shelfState_eq (a : BitVec 16) (lp e : Int) :
    shelfState a lp e = if a.toNat = 0 then 0 else lp + ((e - lp) * a.toNat).tdiv 65536 := by
  simp only [shelfState, trunc, bitVec_eq_zero_iff]
  rfl

theorem shelfOutput_eq (a : BitVec 16) (ls : Nat) (lp e : Int) :
    shelfOutput a ls lp e = if a.toNat = 0 then e else
      max (-134217728) (min 134217727 (e + (((ls : Int) - 4194304) * lp).tdiv 4194304)) := by
  simp only [shelfOutput, trunc, bitVec_eq_zero_iff, clampWorking_eq]
  rfl

theorem clampSlot_toInt (y : Int) : (BitVec.ofInt 24 (clampSlot y)).toInt = max (-8388608) (min 8388607 y) := by
  have hslot : clampSlot y = max (-8388608) (min 8388607 y) := rfl
  rw [BitVec.toInt_ofInt, hslot, Int.bmod_eq_of_le (by omega) (by omega)]

theorem isClip_eq (y : Int) : isClip y = decide (y < -8388608 ∨ 8388607 < y) := by
  simp [isClip]

theorem countClip_running (y : Int) (c : Clip) :
    (countClip y c).running = (decide (y < -8388608 ∨ 8388607 < y) || c.running) := by
  rw [countClip, isClip_eq]
  split <;> simp_all

theorem countClip_count (y : Int) (c : Clip) :
    (countClip y c).count = if y < -8388608 ∨ 8388607 < y then min 255 (c.count + 1) else c.count := by
  simp only [countClip, isClip_eq, decide_eq_true_eq]
  split <;> rfl

/-- R7: a tap's contribution, weighted and then scaled. -/
theorem tapContribution_eq (n : Node) (slots : Vector Sample 32) (z : Fin 4) (t : Tap) :
    tapContribution n slots z t = if n.tables.sources[t.source].enabled then
      ((slots[n.tables.sources[t.source].slot].toInt * t.weight.toInt + 2 ^ 13) / 2 ^ 14
        * (n.levels.pairs[pairIndex z n.tables.sources[t.source].program].linear : Int) + 2 ^ 21) / 2 ^ 22
      else 0 := by
  unfold tapContribution sourceSample
  cases n.tables.sources[t.source].enabled <;> rfl

/-- R8: the premix by the weighted taps. -/
theorem premix_eq {n : Node} {slots : Vector Sample 32} {k : Fin 24} {weighted : Tap → Int}
    (h : ∀ t, weighted t = tapContribution n slots n.tables.speakers[k].zone t) :
    premix n slots k = max (-134217728) (min 134217727 (n.tables.speakers[k].taps.map weighted).sum) := by
  rw [premix, clampWorking_eq, funext h]

/-! ### The equaliser -/

/-- R83: the slot that a fading speaker holds. -/
theorem slotOf_eq {n : Node} {k : Fin 24} {i : Fin 8} {h : Held} (hi : n.eq.slots[i] = some h) (hk : h.speaker = k)
    (hone : ∀ (j : Fin 8) (g : Held), n.eq.slots[j] = some g → g.speaker = k → j = i) : slotOf n k = some i := by
  cases hs : slotOf n k with
  | none => exact absurd (ownerOf_eq_some.mpr ⟨h, hi, hk⟩) (slotOf_none hs i)
  | some j =>
    obtain ⟨g, hg, hgk⟩ := ownerOf_eq_some.mp (slotOf_some hs)
    rw [hone j g hg hgk]

/-- R78: outside a crossfade the running chain alone filters. -/
theorem equalise_current {n : Node} {k : Fin 24} {r : EqRecord} (x : Int) (h : ∀ t p, r.phase ≠ .fading t p) :
    equalise n k r x = ({ r with running := chainState (sectionsOf n.tables r.current) r.running x },
      chainOutput (sectionsOf n.tables r.current) r.running x) := by
  unfold equalise
  cases hp : r.phase with
  | idle => rfl
  | waiting q => rfl
  | fading t p => exact absurd hp (h t p)

/-- R85: in a crossfade both chains filter, mixed by the slot's count. -/
theorem equalise_fading {n : Node} {k : Fin 24} {r : EqRecord} {t : SetRef} {p : Option SetRef} {i : Fin 8} {h : Held}
    (x : Int) (hr : r.phase = .fading t p) (hs : slotOf n k = some i) (hi : n.eq.slots[i] = some h) :
    equalise n k r x =
      ({ r with running := chainState (sectionsOf n.tables r.current) r.running x,
                incoming := chainState (sectionsOf n.tables t) r.incoming x },
       crossfade (chainOutput (sectionsOf n.tables r.current) r.running x)
         (chainOutput (sectionsOf n.tables t) r.incoming x) h.count h.length) := by
  simp only [equalise, hr, hs, hi]

theorem countSlots_slot (n : Node) (i : Fin 8) :
    (countSlots n).eq.slots[i] = n.eq.slots[i].map fun h => { h with count := h.count + 1 } := by
  rw [countSlots, mapVec_at]

theorem slotOf_countSlots {n : Node} {k : Fin 24} {i : Fin 8} {h : Held} (hi : n.eq.slots[i] = some h)
    (hk : h.speaker = k) (hone : ∀ (j : Fin 8) (g : Held), n.eq.slots[j] = some g → g.speaker = k → j = i) :
    slotOf (countSlots n) k = some i := by
  refine slotOf_eq (h := { h with count := h.count + 1 }) (by rw [countSlots_slot, hi]; rfl) hk fun j g hj hg => ?_
  rw [countSlots_slot] at hj
  obtain ⟨g', hg', rfl⟩ := Option.map_eq_some_iff.mp hj
  exact hone j g' hg' hg

/-! ### One speaker's frame -/

/-- The frame of speaker k for a frame's slots, after the crossfade slots have counted. -/
def frameOf (n : Node) (slots : Vector Sample 32) (k : Fin 24) : SpeakerFrame :=
  speakerFrame (countSlots n) k (premix n slots k)

theorem speakerFrames_at {n : Node} {slots : Vector Sample 32} {k : Fin 24}
    (hon : n.tables.speakers[k].enabled = true) :
    (speakerFrames slots (countSlots n))[k] = some (frameOf n slots k) := by
  rw [speakerFrames, ofFn_at]
  exact if_pos hon

/-- R28, R29: the slot of an enabled speaker is claimed by it alone. -/
theorem claimant_eq {n : Node} (hd : SlotsDistinct n) {k : Fin 24} (hon : n.tables.speakers[k].enabled = true) :
    claimant n n.tables.speakers[k].slot = some k := by
  obtain ⟨j, hj, hon', hs⟩ := claimant_some hon rfl
  rw [hj, hd j k hon' hon hs]

/-- What a frame in QUIET or ACTIVE makes of an enabled speaker. -/
theorem audioFrame_speaker {n : Node} {slots : Vector Sample 32} {k : Fin 24} (ha : audioRuns n.control.node = true)
    (hon : n.tables.speakers[k].enabled = true) (hd : SlotsDistinct n) :
    (audioFrame slots n).2[n.tables.speakers[k].slot] = BitVec.ofInt 24 (clampSlot (frameOf n slots k).exact) ∧
    (audioFrame slots n).1.eq.records[k] = (frameOf n slots k).record ∧
    (audioFrame slots n).1.levels.clips[k] = countClip (frameOf n slots k).exact n.levels.clips[k] ∧
    ∀ i : Fin 8, (audioFrame slots n).1.eq.slots[i] = (countSlots n).eq.slots[i] := by
  have hframe := speakerFrames_at (slots := slots) hon
  have hpas : n.control.node ≠ .passive := fun e => by rw [e] at ha; cases ha
  rw [audioFrame, if_pos ha]
  dsimp only
  refine ⟨?_, ?_, ?_, fun i => ?_⟩
  · have hclaim : claimant (countSlots n) n.tables.speakers[k].slot = some k := claimant_eq hd hon
    rw [sentSlots, ofFn_at, countSlots_control, if_neg hpas, hclaim]
    dsimp only
    rw [if_pos ha, hframe]
  · rw [storeFrames, ofFn_at, hframe]
  · rw [storeFrames, ofFn_at, hframe, countSlots_levels]
  · simp only [storeFrames]

/-- R94, R42: shelf and output stage after the equaliser. -/
theorem speakerFrame_of_equalise {n : Node} {k : Fin 24} {x e lp z : Int} {r s : EqRecord}
    (hq : equalise n k n.eq.records[k] x = (r, e))
    (hlp : lp = shelfState n.tables.speakers[k].alpha r.lp e)
    (hz : z = shelfOutput n.tables.speakers[k].alpha (shelfGain n k) lp e) (hs : s = { r with lp := lp }) :
    speakerFrame n k x = { record := s, exact := outputExact z n.levels.speakers[k].linear } := by
  simp only [speakerFrame, hq]
  rw [hs, hz, hlp]

/-! ### A frame that moves no state -/

/-- A missed frame, or a frame of the accepted code whose hop count is the address, leaves the node state, the tables,
the levels and the EQ state to the sample path as they stand. -/
theorem taken_steady {f : Option DownFrame} {n : Node} (hb : n.boundary = [])
    (hf : f = none ∨ ∃ g, f = some g ∧ g.code = codeNumber n.link.accepted ∧ n.link.address = some g.hop) :
    (taken f n).control = n.control ∧ (taken f n).tables = n.tables ∧ (taken f n).levels = n.levels ∧
    (taken f n).eq = n.eq := by
  have hagree := taken_agree_header f hb
  suffices h : (takeHeader f n).control = n.control ∧ (takeHeader f n).tables = n.tables ∧
      (takeHeader f n).levels = n.levels ∧ (takeHeader f n).eq = n.eq by
    obtain ⟨hc, ht, hg, he⟩ := h
    exact ⟨hagree.control.trans hc, hagree.tables.trans ht, hagree.levels.trans hg, hagree.eq.trans he⟩
  obtain rfl | ⟨g, rfl, hcode, haddr⟩ := hf
  · rw [takeHeader_none]
    exact ⟨rfl, rfl, rfl, rfl⟩
  · have hcode : codeOf g.code = some n.link.accepted := codeOf_eq_some.mpr hcode
    have htaken : takeCode (codeOf g.code) g.hop n = n ∨
        takeCode (codeOf g.code) g.hop n = setCandidate (codeOf g.code) n := by
      obtain ⟨-, e⟩ | ⟨-, e⟩ | ⟨-, d, hd, -, hacc, -⟩ := takeCode_cases (codeOf g.code) g.hop n
      · exact .inl e
      · exact .inr e
      · rw [hcode] at hd
        exact absurd (Option.some_inj.mp hd) hacc
    have hsteady {m : Node} (ha : m.link.address = some g.hop) :
        hopCheck g.hop m = m ∨ hopCheck g.hop m = setMismatch 0 m := by
      cases hr : hopCheckRuns m.control.node with
      | false => exact .inl (hopCheck_off hr)
      | true => exact .inr (hopCheck_equal hr ha rfl)
    simp only [takeHeader]
    rcases htaken with e | e
    · rw [e]
      rcases hsteady haddr with e | e <;> rw [e] <;> exact ⟨rfl, rfl, rfl, rfl⟩
    · rw [e]
      have ha : (setCandidate (codeOf g.code) n).link.address = some g.hop := haddr
      rcases hsteady ha with e | e <;> rw [e] <;> exact ⟨rfl, rfl, rfl, rfl⟩

/-- R43: the last frame of a block hands the marks on and keeps the counts. -/
theorem framePeriod_clipCount (f : Option DownFrame) (n : Node) (k : Fin 24) :
    (framePeriod f n).levels.clips[k].count = (audioFrame (frameSlots f) (taken f n)).1.levels.clips[k].count := by
  rw [← formFrame_levels, framePeriod_eq, countFrame]
  split
  · unfold openBoundary
    split
    · simp only [handOverMarks, mapVec_at]
    · rfl
  · rfl

/-- The frame periods of the statement. -/
theorem exec_steady {c : Instr} {miss : Nat} {slots : Vector Sample 32} {n : Node} (q : List Instr)
    (hl : n.link.head = .locked miss) (hb : n.boundary = [])
    (hc : c = .missedFrame ∧ miss < 3 ∧ slots = .replicate 32 0 ∨ ∃ f : DownFrame, c = .downstreamFrame f ∧
      slots = f.slots ∧ f.code = codeNumber n.link.accepted ∧ n.link.address = some f.hop) :
    ∃ (f : Option DownFrame) (start : Node), exec c ⟨n, q⟩ = .next ⟨framePeriod f start, q⟩ ∧ frameSlots f = slots ∧
      start.link.frameInBlock = n.link.frameInBlock ∧ (taken f start).control = n.control ∧
      (taken f start).tables = n.tables ∧ (taken f start).levels = n.levels ∧ (taken f start).eq = n.eq := by
  obtain ⟨rfl, hk, rfl⟩ | ⟨f, rfl, rfl, hcode, haddr⟩ := hc
  · exact ⟨none, _, exec_missedFrame q hl hk, rfl, rfl, taken_steady hb (.inl rfl)⟩
  · exact ⟨some f, _, exec_downstreamFrame q hl, rfl, rfl, taken_steady hb (.inr ⟨f, rfl, hcode, haddr⟩)⟩

/-- Settles O35: the frame leaves the sample path its node, and the path is the speaker's frame. -/
theorem speakerPlaysItsPremix : Obligations.SpeakerPlaysItsPremix := by
  unfold Obligations.SpeakerPlaysItsPremix
  intro n q c miss slots k weighted x e lp z y alpha r s hl hb hs hc hd hon hr halpha hweighted hx heq hlp hz hy
  obtain ⟨f, start, hexec, hslots, hcount, hcontrol, htables, hlevels, heqs⟩ := exec_steady q hl hb hc
  obtain ⟨hgains, heqstate, hsent⟩ := audioFrame_congr htables hlevels heqs hcontrol (frameSlots f)
  obtain ⟨-, -, -, -, hformed, -⟩ := framePeriod_port f start
  have ha : audioRuns n.control.node = true := audioRuns_iff.mpr hs
  obtain ⟨hslot, hrecord, hclips, hheld⟩ := audioFrame_speaker (slots := slots) ha hon hd
  have hpremix : premix n slots k = x := by
    rw [hx]
    exact premix_eq fun t => (hweighted t).trans (tapContribution_eq n slots _ t).symm
  have hframe : frameOf n slots k = { record := s, exact := y } := by
    have hz : z = shelfOutput n.tables.speakers[k].alpha (shelfGain (countSlots n) k) lp e := by
      rw [shelfOutput_eq, hz, halpha]
      rfl
    have hlp : lp = shelfState n.tables.speakers[k].alpha r.lp e := by rw [shelfState_eq, hlp, halpha]
    rw [frameOf, hpremix, hy, ← outputExact_eq]
    rcases heq with ⟨hidle, he, hs⟩ | ⟨t, p, i, h, hfade, hi, hk, hone, he, hs⟩
    · have hq := equalise_current (n := countSlots n) (k := k) x hidle
      rw [countSlots_tables, ← he] at hq
      rw [hr] at hq hlp hs
      exact speakerFrame_of_equalise hq hlp hz hs
    · have hheld : (countSlots n).eq.slots[i] = some { h with count := h.count + 1 } := by
        rw [countSlots_slot, hi]
        rfl
      have hq := equalise_fading x hfade (slotOf_countSlots hi hk hone) hheld
      rw [countSlots_tables, crossfade, trunc, Nat.cast_succ, ← he] at hq
      rw [hr] at hq hlp hs
      exact speakerFrame_of_equalise hq hlp hz hs
  rw [hslots] at hgains heqstate hsent
  refine ⟨framePeriod f start, formed f start, hexec, hformed, ?_, ?_, fun i => ?_, fun hlt => ?_, ?_⟩
  · have hform : (formed f start).slots = (audioFrame slots (taken f start)).2 := by
      rw [← hslots]
      cases f <;> rfl
    rw [hform, hsent, hslot, hframe, clampSlot_toInt]
  · rw [framePeriod_eqState, hslots, heqstate, hrecord, hframe]
  · rw [framePeriod_eqState, hslots, heqstate, hheld, countSlots_slot]
  · rw [framePeriod_levels (by omega), hslots, hgains, hclips, hframe, countClip_running]
  · rw [framePeriod_clipCount, hslots, hgains, hclips, hframe, countClip_count]

end Sys2Proof.Machine
end

section
/-! PROOFS. The speed tracker at a boundary: its curves, its step and its events (R53 to R62, R67). -/

namespace Sys2Proof.Machine

/-! ### The curve -/

/-- The search for the breakpoints around a speed passes those at or below it. -/
theorem curveAbove_skip {s : Nat} {a : Breakpoint} (tail : List Breakpoint) (ha : a.speed ≤ s) :
    ∀ (front : List Breakpoint) (c : Breakpoint), (∀ x ∈ front, x.speed ≤ s) →
      curveAbove c (front ++ a :: tail) s = curveAbove a tail s
  | [], _, _ => if_pos ha
  | x :: front, c, h => by
    rw [List.cons_append, curveAbove, if_pos (h x (by simp))]
    exact curveAbove_skip tail ha front x fun y hy => h y (by simp [hy])

section
variable {points front tail : List Breakpoint} {a : Breakpoint} {s : Nat}

theorem speed_lt_of_mem_front (hp : List.Pairwise (fun a b => a.speed < b.speed) (front ++ a :: tail)) :
    ∀ x ∈ front, x.speed < a.speed := fun x hx => (List.pairwise_append.mp hp).2.2 x hx a (by simp)

theorem speed_lt_of_mem_tail (hp : List.Pairwise (fun a b => a.speed < b.speed) (front ++ a :: tail)) :
    ∀ x ∈ tail, a.speed < x.speed := (List.pairwise_cons.mp (List.pairwise_append.mp hp).2.1).1

/-- R57: from the breakpoint at or below which a speed does not lie. -/
theorem curveValue_from (hp : List.Pairwise (fun a b => a.speed < b.speed) (front ++ a :: tail)) (ha : a.speed < s) :
    curveValue (front ++ a :: tail) s = curveAbove a tail s := by
  have hfront := speed_lt_of_mem_front hp
  cases front with
  | nil => exact if_neg (by omega)
  | cons c front =>
    have hc := hfront c (by simp)
    rw [List.cons_append, curveValue, if_neg (by omega)]
    exact curveAbove_skip tail ha.le front c fun x hx => by have := hfront x (by simp [hx]); omega

theorem interpolate_start (v0 v1 s0 s1 : Nat) : interpolate v0 v1 s0 s1 s0 = v0 := by
  simp [interpolate, trunc]

theorem curveAbove_start (hp : List.Pairwise (fun a b => a.speed < b.speed) (front ++ a :: tail)) :
    curveAbove a tail a.speed = (a.lift, a.bass) := by
  cases tail with
  | nil => rfl
  | cons b rest =>
    have hb := speed_lt_of_mem_tail hp b (by simp)
    rw [curveAbove, if_neg (by omega), interpolate_start, interpolate_start]

/-- R57: a breakpoint's own values at its speed. -/
theorem curveValue_at (hp : List.Pairwise (fun a b => a.speed < b.speed) (front ++ a :: tail)) :
    curveValue (front ++ a :: tail) a.speed = (a.lift, a.bass) := by
  have hfront := speed_lt_of_mem_front hp
  cases front with
  | nil => exact if_pos le_rfl
  | cons c front =>
    have hc := hfront c (by simp)
    rw [List.cons_append, curveValue, if_neg (by omega),
      curveAbove_skip tail le_rfl front c fun x hx => (hfront x (by simp [hx])).le]
    exact curveAbove_start hp

end

/-- A share of a difference, truncated, does not leave the difference. -/
theorem tdiv_share_bounds {d x y : Int} (hx : 0 ≤ x) (hxy : x ≤ y) (hy : 0 < y) :
    min 0 d ≤ (d * x).tdiv y ∧ (d * x).tdiv y ≤ max 0 d := by
  have key {e : Int} (he : 0 ≤ e) : 0 ≤ (e * x).tdiv y ∧ (e * x).tdiv y ≤ e := by
    have h0 : 0 ≤ e * x := Int.mul_nonneg he hx
    refine ⟨Int.tdiv_nonneg h0 hy.le, ?_⟩
    rw [Int.tdiv_eq_ediv_of_nonneg h0]
    exact (Int.ediv_le_ediv hy (Int.mul_le_mul_of_nonneg_left hxy he)).trans (Int.mul_ediv_cancel e hy.ne').le
  rcases le_total 0 d with h | h
  · have := key h
    omega
  · have h := key (e := -d) (by omega)
    rw [Int.neg_mul, Int.neg_tdiv] at h
    omega

/-- R57: the truncated interpolation lies between the values. -/
theorem interpolate_spec {s0 s1 s : Nat} (v0 v1 : Nat) (h0 : s0 < s) (h1 : s < s1) :
    ((interpolate v0 v1 s0 s1 s : Nat) : Int) = v0 + (((v1 : Int) - v0) * ((s : Int) - s0)).tdiv ((s1 : Int) - s0) ∧
    min v0 v1 ≤ interpolate v0 v1 s0 s1 s ∧ interpolate v0 v1 s0 s1 s ≤ max v0 v1 := by
  have h := tdiv_share_bounds (d := (v1 : Int) - v0) (x := (s : Int) - s0) (y := (s1 : Int) - s0) (by omega) (by omega)
    (by omega)
  unfold interpolate trunc
  omega

/-- Settles O25, by the place of the speed among the breakpoints. -/
theorem curveIsInterpolated : Obligations.CurveIsInterpolated := by
  unfold Obligations.CurveIsInterpolated
  intro points s hp
  have hat {a : Breakpoint} (ha : a ∈ points) (hs : s = a.speed) : curveValue points s = (a.lift, a.bass) := by
    obtain ⟨front, tail, rfl⟩ := List.append_of_mem ha
    rw [hs]
    exact curveValue_at hp
  refine ⟨fun h => by rw [h]; rfl, fun a rest h hs => ?_, fun a front h hs => ?_, fun a b front rest h ha hb => ?_,
    fun a ha hs => hat ha hs⟩
  · rw [h]
    exact if_pos hs
  · rcases Nat.eq_or_lt_of_le hs with hs | hs
    · exact hat (by simp [h]) hs.symm
    · subst h
      rw [curveValue_from hp hs]
      rfl
  · subst h
    obtain ⟨hlift, hlow, hhigh⟩ := interpolate_spec a.lift b.lift ha hb
    obtain ⟨hbass, hlow', hhigh'⟩ := interpolate_spec a.bass b.bass ha hb
    rw [curveValue_from hp ha, curveAbove, if_neg (by omega)]
    exact ⟨hlift, hbass, hlow, hhigh, hlow', hhigh'⟩

end Sys2Proof.Machine
end

section
/-! PROOFS. The tracker's step at a boundary (R53 to R62, R67) and its events (R53, R54, R61). -/

namespace Sys2Proof.Machine

/-! ### The counts and the flags of a step -/

theorem advanceCounts_live {n : Node} (h : n.tracker.state = .live) :
    advanceCounts n = { n.tracker with
      state := if n.tables.settings.staleTime ≤ n.tracker.stale + 1 then .stale else .live
      stale := n.tracker.stale + 1
      fail := if n.tables.settings.staleTime ≤ n.tracker.stale + 1 then 0 else n.tracker.fail } := by
  simp only [advanceCounts, h]
  split <;> rfl

theorem advanceCounts_stale {n : Node} (h : n.tracker.state = .stale) :
    advanceCounts n = { n.tracker with
      state := if n.tables.settings.failTime ≤ n.tracker.fail + 1 then .failed else .stale
      fail := n.tracker.fail + 1 } := by
  simp only [advanceCounts, h]
  split <;> rfl

theorem advanceCounts_stands {n : Node} (h : n.tracker.state = .none ∨ n.tracker.state = .failed) :
    advanceCounts n = n.tracker := by
  rcases h with h | h <;> simp only [advanceCounts, h]

theorem advanceCounts_fields (n : Node) :
    (advanceCounts n).speed = n.tracker.speed ∧ (advanceCounts n).raw = n.tracker.raw ∧
    (advanceCounts n).band = n.tracker.band ∧ (advanceCounts n).cabin = n.tracker.cabin := by
  unfold advanceCounts
  repeat' split
  all_goals exact ⟨rfl, rfl, rfl, rfl⟩

theorem staleExpires_iff (n : Node) :
    staleExpires n = true ↔ n.tracker.state = .live ∧ n.tables.settings.staleTime ≤ n.tracker.stale + 1 := by
  simp [staleExpires]

theorem failExpires_iff (n : Node) :
    failExpires n = true ↔ n.tracker.state = .stale ∧ n.tables.settings.failTime ≤ n.tracker.fail + 1 := by
  simp [failExpires]

/-- R53, R54: the flags after the tracker's step. -/
def trackEvents (n : Node) : BitVec 13 :=
  if staleExpires n then n.events ||| 0x40#13 else if failExpires n then n.events ||| 0x80#13 else n.events

/-- R67: the tracker after its step. -/
def nextTracker (n : Node) : Tracker := { advanceCounts n with zones := .ofFn (trackZone n) }

theorem nextTracker_zone (n : Node) (z : Fin 4) : (nextTracker n).zones[z] = trackZone n z := ofFn_at z _

theorem nextTracker_counts {n : Node} {t : Tracker} (h : advanceCounts n = t) :
    (nextTracker n).state = t.state ∧ (nextTracker n).stale = t.stale ∧ (nextTracker n).fail = t.fail := by
  subst h
  exact ⟨rfl, rfl, rfl⟩

theorem trackStep_with (n : Node) : trackStep n = { n with tracker := nextTracker n, events := trackEvents n } := by
  rw [trackStep, raiseIf_with, raiseIf_with, trackEvents]
  by_cases hs : staleExpires n = true
  · have hf : failExpires n = false := by
      rw [Bool.eq_false_iff, Ne, failExpires_iff, ((staleExpires_iff n).mp hs).1]
      simp
    simp only [hs, hf, if_true]
    rfl
  · simp only [hs]
    rfl

theorem trackEvents_stale {n : Node} (h : n.tracker.state = .live)
    (ht : n.tables.settings.staleTime ≤ n.tracker.stale + 1) : trackEvents n = n.events ||| 0x40#13 :=
  if_pos ((staleExpires_iff n).mpr ⟨h, ht⟩)

theorem trackEvents_failed {n : Node} (h : n.tracker.state = .stale)
    (ht : n.tables.settings.failTime ≤ n.tracker.fail + 1) : trackEvents n = n.events ||| 0x80#13 := by
  rw [trackEvents, if_neg (by simp [staleExpires_iff, h]), if_pos ((failExpires_iff n).mpr ⟨h, ht⟩)]

theorem trackEvents_stand {n : Node}
    (hs : n.tracker.state = .live → n.tracker.stale + 1 < n.tables.settings.staleTime)
    (hf : n.tracker.state = .stale → n.tracker.fail + 1 < n.tables.settings.failTime) : trackEvents n = n.events := by
  rw [trackEvents, if_neg, if_neg]
  · rw [failExpires_iff]
    rintro ⟨h, hle⟩
    exact absurd (hf h) (by omega)
  · rw [staleExpires_iff]
    rintro ⟨h, hle⟩
    exact absurd (hs h) (by omega)

/-! ### A zone's step -/

theorem stepBass_fields (x : ZoneSpeed) :
    (stepBass x).target = x.target ∧ (stepBass x).bassTarget = x.bassTarget ∧
    (stepBass x).smoothed = x.smoothed ∧ (stepBass x).release = x.release := by
  unfold stepBass
  repeat' split
  all_goals exact ⟨rfl, rfl, rfl, rfl⟩

theorem stepLift_fields (a r : Nat) (x : ZoneSpeed) :
    (stepLift a r x).target = x.target ∧ (stepLift a r x).bassTarget = x.bassTarget ∧
    (stepLift a r x).bass = x.bass := by
  unfold stepLift
  repeat' split
  all_goals exact ⟨rfl, rfl, rfl⟩

theorem updateTarget_fields (s : SpeedState) (h : Nat) (c : Nat × Nat) (x : ZoneSpeed) :
    (updateTarget s h c x).smoothed = x.smoothed ∧ (updateTarget s h c x).release = x.release ∧
    (updateTarget s h c x).bass = x.bass := by
  unfold updateTarget
  repeat' split
  all_goals exact ⟨rfl, rfl, rfl⟩

section
variable (n : Node) (z : Fin 4)

/-- R54, R56, R59: the target that a zone's step leaves. -/
theorem trackZone_target : (trackZone n z).target =
    (updateTarget (advanceCounts n).state n.tables.settings.hysteresis (zoneCurve n z) n.tracker.zones[z]).target :=
  (stepBass_fields _).1.trans (stepLift_fields _ _ _).1

theorem trackZone_bassTarget : (trackZone n z).bassTarget =
    (updateTarget (advanceCounts n).state n.tables.settings.hysteresis (zoneCurve n z)
      n.tracker.zones[z]).bassTarget :=
  (stepBass_fields _).2.1.trans (stepLift_fields _ _ _).2.1

/-- R60, R61: the smoothed lift and the release count after a zone's step, by the target that the step leaves. -/
theorem trackZone_lift :
    (n.tracker.zones[z].smoothed < (trackZone n z).target →
      (trackZone n z).smoothed =
        min (n.tracker.zones[z].smoothed + n.tables.settings.attack) (trackZone n z).target ∧
      (trackZone n z).release = 0) ∧
    (n.tracker.zones[z].smoothed = (trackZone n z).target →
      (trackZone n z).smoothed = n.tracker.zones[z].smoothed ∧ (trackZone n z).release = 0) ∧
    ((trackZone n z).target < n.tracker.zones[z].smoothed →
      (n.tables.settings.release ≤ n.tracker.zones[z].release + 1 →
        (trackZone n z).smoothed = n.tracker.zones[z].smoothed - 1 ∧ (trackZone n z).release = 0) ∧
      (n.tracker.zones[z].release + 1 < n.tables.settings.release →
        (trackZone n z).smoothed = n.tracker.zones[z].smoothed ∧
        (trackZone n z).release = n.tracker.zones[z].release + 1)) := by
  rw [trackZone_target]
  unfold trackZone
  generalize hx : updateTarget (advanceCounts n).state n.tables.settings.hysteresis (zoneCurve n z)
    n.tracker.zones[z] = x
  obtain ⟨hsmoothed, hrelease, -⟩ := updateTarget_fields (advanceCounts n).state n.tables.settings.hysteresis
    (zoneCurve n z) n.tracker.zones[z]
  rw [hx] at hsmoothed hrelease
  obtain ⟨-, -, hsm, hrel⟩ := stepBass_fields (stepLift n.tables.settings.attack n.tables.settings.release x)
  rw [hsm, hrel, ← hsmoothed, ← hrelease]
  refine ⟨fun h => ?_, fun h => ?_, fun h => ⟨fun hr => ?_, fun hr => ?_⟩⟩
  · rw [stepLift, if_pos h]
    exact ⟨rfl, rfl⟩
  · rw [stepLift, if_neg (by omega), if_pos h]
    exact ⟨rfl, rfl⟩
  · rw [stepLift, if_neg (by omega), if_neg (by omega), if_pos hr]
    exact ⟨rfl, rfl⟩
  · rw [stepLift, if_neg (by omega), if_neg (by omega), if_neg (by omega)]
    exact ⟨rfl, rfl⟩

/-- R62: the applied bass after a zone's step. -/
theorem trackZone_bass :
    (n.tracker.zones[z].bass < (trackZone n z).bassTarget →
      (trackZone n z).bass = n.tracker.zones[z].bass + 1) ∧
    ((trackZone n z).bassTarget < n.tracker.zones[z].bass →
      (trackZone n z).bass + 1 = n.tracker.zones[z].bass) ∧
    (n.tracker.zones[z].bass = (trackZone n z).bassTarget →
      (trackZone n z).bass = n.tracker.zones[z].bass) := by
  unfold trackZone
  generalize hx : stepLift n.tables.settings.attack n.tables.settings.release
    (updateTarget (advanceCounts n).state n.tables.settings.hysteresis (zoneCurve n z) n.tracker.zones[z]) = x
  have hbass : x.bass = n.tracker.zones[z].bass := by
    rw [← hx, (stepLift_fields _ _ _).2.2, (updateTarget_fields _ _ _ _).2.2]
  rw [(stepBass_fields x).2.1, ← hbass]
  refine ⟨fun h => ?_, fun h => ?_, fun h => ?_⟩
  · rw [stepBass, if_pos h]
  · rw [stepBass, if_neg (by omega), if_pos h]
    dsimp only
    omega
  · rw [stepBass, if_neg (by omega), if_neg (by omega)]

end

/-! ### The target in each speed state -/

section
variable {s : SpeedState} {h : Nat} {c : Nat × Nat} {x : ZoneSpeed}

theorem updateTarget_moves (hs : s = .live) (hc : x.target < c.1 ∨ c.1 + h < x.target) :
    (updateTarget s h c x).target = c.1 ∧ (updateTarget s h c x).bassTarget = c.2 := by
  subst hs
  simp only [updateTarget, if_pos hc]
  exact ⟨trivial, trivial⟩

theorem updateTarget_stands (hs : s = .stale ∨ s = .live ∧ c.1 ≤ x.target ∧ x.target ≤ c.1 + h) :
    updateTarget s h c x = x := by
  rcases hs with hs | ⟨hs, hlow, hhigh⟩
  · simp only [updateTarget, hs]
  · simp only [updateTarget, hs]
    exact if_neg (by omega)

theorem updateTarget_drops (hs : s = .none ∨ s = .failed) :
    (updateTarget s h c x).target = 0 ∧ (updateTarget s h c x).bassTarget = 0 := by
  rcases hs with hs | hs <;> simp only [updateTarget, hs] <;> exact ⟨trivial, trivial⟩

end

/-- R58: the offsets of the cabin flags that are set. -/
theorem cabinOffset_sum (offsets : Vector Nat 4) (cabin : BitVec 4) : cabinOffset offsets cabin =
    (if cabin.getLsbD 0 then offsets[0] else 0) + (if cabin.getLsbD 1 then offsets[1] else 0) +
    (if cabin.getLsbD 2 then offsets[2] else 0) + (if cabin.getLsbD 3 then offsets[3] else 0) := by
  have hadd (a b : Nat) (c : Bool) : (if c then a + b else a) = a + if c then b else 0 := by cases c <;> rfl
  rw [cabinOffset, show List.finRange 4 = [0, 1, 2, 3] from rfl]
  simp only [List.foldl_cons, List.foldl_nil, hadd, Nat.zero_add]
  rfl

theorem clampNat_zero (hi x : Nat) : clampNat 0 hi x = min hi x := by
  unfold clampNat
  omega

/-- R57, R58: a zone's curve lift and curve bass. -/
theorem zoneCurve_eq (n : Node) (z : Fin 4) {curve : Curve} (h : curve = n.tables.curves[n.tables.zones[z].curve]) :
    zoneCurve n z =
      (min 192 ((curveValue curve.points n.tracker.speed).1 +
          ((if n.tracker.cabin.getLsbD 0 then curve.offsets[0] else 0) +
           (if n.tracker.cabin.getLsbD 1 then curve.offsets[1] else 0) +
           (if n.tracker.cabin.getLsbD 2 then curve.offsets[2] else 0) +
           (if n.tracker.cabin.getLsbD 3 then curve.offsets[3] else 0))),
        (curveValue curve.points n.tracker.speed).2) := by
  subst h
  rw [zoneCurve, clampNat_zero, cabinOffset_sum]

/-- The tracker's work alone is left of a boundary. -/
theorem completeBoundary_track {n : Node} (hs : inService n.control.node = true) (hb : n.boundary = [.track]) :
    completeBoundary n = { n with
      boundary := [], choice := n.choice + 1, tracker := nextTracker n, events := trackEvents n } := by
  rw [completeBoundary_work hs hb, doWork, trackStep_with]
  rfl

/-- Settles O26: the counts by the speed state, each zone's targets by the state that the count's advance leaves. -/
theorem trackerTakesItsStep : Obligations.TrackerTakesItsStep := by
  unfold Obligations.TrackerTakesItsStep
  intro n q hs hb
  refine ⟨_, by rw [exec_blockBoundary, completeBoundary_track hs hb], rfl, ?_⟩
  dsimp only
  obtain ⟨hspeed, hraw, hband, hcabin⟩ := advanceCounts_fields n
  refine ⟨hspeed, hraw, hband, hcabin, fun hst => ?_, fun hst => ?_, fun hst => ?_, fun z curve c cb hcurve hc hcb => ?_⟩
  · obtain ⟨hstate, hstale, hfail⟩ := nextTracker_counts (advanceCounts_live hst)
    refine ⟨hstale, fun ht => ⟨hstate.trans (if_pos ht), hfail.trans (if_pos ht), trackEvents_stale hst ht⟩,
      fun ht => ⟨hstate.trans (if_neg (by omega)), hfail.trans (if_neg (by omega)),
        trackEvents_stand (fun _ => ht) (by simp [hst])⟩⟩
  · obtain ⟨hstate, hstale, hfail⟩ := nextTracker_counts (advanceCounts_stale hst)
    refine ⟨hstale, hfail, fun ht => ⟨hstate.trans (if_pos ht), trackEvents_failed hst ht⟩,
      fun ht => ⟨hstate.trans (if_neg (by omega)), trackEvents_stand (by simp [hst]) fun _ => ht⟩⟩
  · obtain ⟨hstate, hstale, hfail⟩ := nextTracker_counts (advanceCounts_stands hst)
    exact ⟨hstate, hstale, hfail,
      trackEvents_stand (by rcases hst with h | h <;> simp [h]) (by rcases hst with h | h <;> simp [h])⟩
  · have hvalue : zoneCurve n z = (c, cb) := by rw [zoneCurve_eq n z hcurve, ← hc, ← hcb]
    have htarget := trackZone_target n z
    have hbassTarget := trackZone_bassTarget n z
    rw [hvalue] at htarget hbassTarget
    obtain ⟨hattack, heven, hrelease⟩ := trackZone_lift n z
    obtain ⟨hrise, hfall, hrest⟩ := trackZone_bass n z
    rw [nextTracker_zone]
    refine ⟨fun hl ht => ?_, fun hst => ?_, fun hst => ?_, hattack, heven, hrelease, hrise, hfall, hrest⟩
    · obtain ⟨h1, h2⟩ := updateTarget_moves (c := (c, cb)) hl ht
      exact ⟨htarget.trans h1, hbassTarget.trans h2⟩
    · have h := updateTarget_stands (c := (c, cb)) hst
      exact ⟨htarget.trans (congrArg ZoneSpeed.target h), hbassTarget.trans (congrArg ZoneSpeed.bassTarget h)⟩
    · obtain ⟨h1, h2⟩ := updateTarget_drops (h := n.tables.settings.hysteresis) (c := (c, cb))
        (x := n.tracker.zones[z]) hst
      exact ⟨htarget.trans h1, hbassTarget.trans h2⟩

/-! ### The guard -/

/-- R114: a zone is clipped when a speaker that names it hands on a set mark. -/
theorem zoneClipped_iff (n : Node) (z : Fin 4) :
    zoneClipped n z = true ↔ ∃ k : Fin 24, n.tables.speakers[k].zone = z ∧ n.levels.clips[k].last = true := by
  simp only [zoneClipped, List.any_eq_true, List.mem_finRange, true_and, Bool.and_eq_true, beq_iff_eq]

theorem zoneClipped_false_iff (n : Node) (z : Fin 4) :
    zoneClipped n z = false ↔ ∀ k : Fin 24, n.tables.speakers[k].zone = z → n.levels.clips[k].last = false := by
  rw [← Bool.not_eq_true, zoneClipped_iff]
  simp only [not_exists, not_and, Bool.not_eq_true]

theorem guardLeavesZero_iff (n : Node) :
    guardLeavesZero n = true ↔ ∃ z : Fin 4, n.tables.zones[z].guardOn = true ∧ n.guards[z].code = 0 ∧
      ∃ k : Fin 24, n.tables.speakers[k].zone = z ∧ n.levels.clips[k].last = true := by
  simp only [guardLeavesZero, List.any_eq_true, List.mem_finRange, true_and, Bool.and_eq_true, beq_iff_eq,
    zoneClipped_iff]
  exact exists_congr fun z => by tauto

/-- R119: the flags after the guard's step. -/
def guardEvents (n : Node) : BitVec 13 := if guardLeavesZero n then n.events ||| 0x400#13 else n.events

theorem guardStep_with (n : Node) :
    guardStep n = { n with guards := .ofFn (guardZone n), events := guardEvents n } := by
  rw [guardStep, raiseIf_with]
  rfl

section
variable {n : Node} {z : Fin 4}

theorem guardZone_off (h : n.tables.zones[z].guardOn = false) : guardZone n z = n.guards[z] := by
  rw [guardZone, h]
  rfl

theorem guardZone_clipped (h : n.tables.zones[z].guardOn = true) (hc : zoneClipped n z = true) :
    guardZone n z = guardAttack n.tables.zones[z] n.guards[z] := by
  rw [guardZone, h, hc]
  rfl

theorem guardZone_clear (h : n.tables.zones[z].guardOn = true) (hc : zoneClipped n z = false) :
    guardZone n z = guardClear n.tables.zones[z] n.guards[z] := by
  rw [guardZone, h, hc]
  rfl

end

section
variable {e : Zone} {g : Guard}

theorem guardClear_holds (h : 0 < g.hold) : guardClear e g = { g with hold := g.hold - 1 } := if_pos h

theorem guardClear_rises (h : g.hold = 0) (hc : g.code < 0) (hr : e.recover ≤ g.recover + 1) :
    guardClear e g = { g with code := g.code + 1, recover := 0 } := by
  rw [guardClear, if_neg (by omega), if_pos hc, if_pos hr]

theorem guardClear_waits (h : g.hold = 0) (hc : g.code < 0) (hr : g.recover + 1 < e.recover) :
    guardClear e g = { g with recover := g.recover + 1 } := by
  rw [guardClear, if_neg (by omega), if_pos hc, if_neg (by omega)]

theorem guardClear_atRest (h : g.hold = 0) (hc : g.code = 0) :
    guardClear e g = { code := 0, hold := 0, recover := 0 } := by
  rw [guardClear, if_neg (by omega), if_neg (by omega), h, hc]

end

/-- The guard's work alone is left of a boundary. -/
theorem completeBoundary_guard {n : Node} (hs : inService n.control.node = true) (hb : n.boundary = [.guardStep]) :
    completeBoundary n = { n with
      boundary := [], choice := n.choice + 1, guards := .ofFn (guardZone n), events := guardEvents n } := by
  rw [completeBoundary_work hs hb, doWork, guardStep_with]
  rfl

/-- Settles O27, zone by zone. -/
theorem guardTakesItsStep : Obligations.GuardTakesItsStep := by
  unfold Obligations.GuardTakesItsStep
  intro n q hs hb
  refine ⟨_, by rw [exec_blockBoundary, completeBoundary_guard hs hb], rfl, ?_⟩
  dsimp only
  refine ⟨fun z => ?_, fun h => if_pos ((guardLeavesZero_iff n).mpr h), fun h => if_neg ?_⟩
  · rw [ofFn_at]
    refine ⟨guardZone_off, fun hon => ⟨fun hc => ?_, fun hc => ?_⟩⟩
    · exact guardZone_clipped hon ((zoneClipped_iff n z).mpr hc)
    · rw [guardZone_clear hon ((zoneClipped_false_iff n z).mpr hc)]
      exact ⟨guardClear_holds, fun h0 hcode => ⟨guardClear_rises h0 hcode, guardClear_waits h0 hcode⟩,
        guardClear_atRest⟩
  · rw [guardLeavesZero_iff]
    rintro ⟨z, hon, hcode, k, hk, hlast⟩
    exact Bool.false_ne_true ((h z hon hcode k hk).symm.trans hlast)

/-- What a command answers, with the next node in another form. -/
theorem exec_eq_of_node {c : Instr} {n m r : Node} {q : List Instr} (hexec : exec c ⟨n, q⟩ = .next ⟨r, q⟩)
    (h : r = m) : exec c ⟨n, q⟩ = .next ⟨m, q⟩ := by
  rw [hexec, h]

/-! ### The events of the tracker's and of the guard's step -/

section
variable {n : Node} {b : Bool} (hs : inService n.control.node = true) (hb : b = true)
include hs hb

/-- An event of the tracker is its step, the one that BLOCK_BOUNDARY takes. -/
theorem trackEvent_step (hw : .track ∈ n.boundary) (q : List Instr) :
    takeEvent .track b n = { n with
      boundary := n.boundary.erase .track, tracker := nextTracker n, events := trackEvents n } ∧
    exec .blockBoundary ⟨{ n with boundary := [.track] }, q⟩ = .next ⟨{ n with
      boundary := [], choice := n.choice + 1, tracker := nextTracker n, events := trackEvents n }, q⟩ := by
  rw [takeEvent_happens hs hw rfl hb, doWork, trackStep_with, exec_blockBoundary,
    completeBoundary_track (n := { n with boundary := [.track] }) hs rfl]
  exact ⟨rfl, rfl⟩

/-- An event of the guard is its step, the one that BLOCK_BOUNDARY takes. -/
theorem guardEvent_step (hw : .guardStep ∈ n.boundary) (q : List Instr) :
    takeEvent .guardStep b n = { n with
      boundary := n.boundary.erase .guardStep, guards := .ofFn (guardZone n), events := guardEvents n } ∧
    exec .blockBoundary ⟨{ n with boundary := [.guardStep] }, q⟩ = .next ⟨{ n with
      boundary := [], choice := n.choice + 1, guards := .ofFn (guardZone n), events := guardEvents n }, q⟩ := by
  rw [takeEvent_happens hs hw rfl hb, doWork, guardStep_with, exec_blockBoundary,
    completeBoundary_guard (n := { n with boundary := [.guardStep] }) hs rfl]
  exact ⟨rfl, rfl⟩

end

section
variable {n : Node}

/-- R54, R56: a step that leaves no speed drops the targets. -/
theorem trackZone_drops (h : (nextTracker n).state = .none ∨ (nextTracker n).state = .failed) (z : Fin 4) :
    (trackZone n z).target = 0 ∧ (trackZone n z).bassTarget = 0 := by
  rw [trackZone_target, trackZone_bassTarget]
  exact updateTarget_drops h

/-- R53: a step that leaves STALE keeps the target. -/
theorem trackZone_stands (h : (nextTracker n).state = .stale) (z : Fin 4) :
    (trackZone n z).target = n.tracker.zones[z].target := by
  rw [trackZone_target]
  exact congrArg ZoneSpeed.target (updateTarget_stands (.inl h))

/-- R59: a step that leaves LIVE follows the curve with its hysteresis. -/
theorem trackZone_follows (h : (nextTracker n).state = .live) (z : Fin 4) : (trackZone n z).target =
    if n.tracker.zones[z].target < (zoneCurve n z).1 ∨
        (zoneCurve n z).1 + n.tables.settings.hysteresis < n.tracker.zones[z].target
    then (zoneCurve n z).1 else n.tracker.zones[z].target := by
  rw [trackZone_target, show (advanceCounts n).state = _ from h]
  simp only [updateTarget]
  split <;> rfl

end

/-- The target that a zone's step leaves, by the speed state and its count. -/
theorem trackZone_target_of {n : Node} {z : Fin 4} {target : Nat}
    (h : (n.tracker.state = .none ∨ n.tracker.state = .failed ∨
        n.tracker.state = .stale ∧ n.tables.settings.failTime ≤ n.tracker.fail + 1) ∧ target = 0 ∨
      (n.tracker.state = .stale ∧ n.tracker.fail + 1 < n.tables.settings.failTime ∨
        n.tracker.state = .live ∧ n.tables.settings.staleTime ≤ n.tracker.stale + 1) ∧
        target = n.tracker.zones[z].target ∨
      n.tracker.state = .live ∧ n.tracker.stale + 1 < n.tables.settings.staleTime ∧
        target = (if n.tracker.zones[z].target < (zoneCurve n z).1 ∨
            (zoneCurve n z).1 + n.tables.settings.hysteresis < n.tracker.zones[z].target
          then (zoneCurve n z).1 else n.tracker.zones[z].target)) : (trackZone n z).target = target := by
  rcases h with ⟨h, rfl⟩ | ⟨h, rfl⟩ | ⟨hst, ht, rfl⟩
  · refine (trackZone_drops ?_ z).1
    rcases h with h | h | ⟨h, ht⟩
    · exact .inl ((nextTracker_counts (advanceCounts_stands (.inl h))).1.trans h)
    · exact .inr ((nextTracker_counts (advanceCounts_stands (.inr h))).1.trans h)
    · exact .inr ((nextTracker_counts (advanceCounts_stale h)).1.trans (if_pos ht))
  · refine trackZone_stands ?_ z
    rcases h with ⟨h, ht⟩ | ⟨h, ht⟩
    · exact (nextTracker_counts (advanceCounts_stale h)).1.trans (if_neg (by omega))
    · exact (nextTracker_counts (advanceCounts_live h)).1.trans (if_pos ht)
  · exact trackZone_follows ((nextTracker_counts (advanceCounts_live hst)).1.trans (if_neg (by omega))) z

theorem liftReleases_iff (z : Fin 4) (n : Node) :
    liftReleases z n = true ↔ (trackZone n z).smoothed < n.tracker.zones[z].smoothed := decide_eq_true_iff

theorem guardHoldEnds_of {z : Fin 4} {n : Node} (hon : n.tables.zones[z].guardOn = true)
    (hc : zoneClipped n z = false) (hh : n.guards[z].hold = 1) : guardHoldEnds z n = true := by
  rw [guardHoldEnds, guardWaits, hon, hc, hh]
  rfl

theorem guardRecovers_of {z : Fin 4} {n : Node} (hon : n.tables.zones[z].guardOn = true)
    (hc : zoneClipped n z = false) (hh : n.guards[z].hold = 0) (hcode : n.guards[z].code < 0)
    (hr : n.tables.zones[z].recover ≤ n.guards[z].recover + 1) : guardRecovers z n = true := by
  rw [guardRecovers, guardWaits, hon, hc, hh, decide_eq_true hcode, decide_eq_true hr]
  rfl

/-- Settles O30: each event is the step of its work. -/
theorem trackerAndGuardEventsComeAbout : Obligations.TrackerAndGuardEventsComeAbout := by
  unfold Obligations.TrackerAndGuardEventsComeAbout
  refine ⟨fun n q hs hw => ⟨fun hst ht => ?_, fun hst ht => ?_, fun z target htarget hlt hr => ?_⟩,
    fun n q z c hs hw hon hclear hc => ?_⟩
  · obtain ⟨hevent, hboundary⟩ := trackEvent_step hs ((staleExpires_iff n).mpr ⟨hst, ht⟩) hw q
    rw [trackEvents_stale hst ht] at hevent hboundary
    obtain ⟨hstate, hstale, hfail⟩ := nextTracker_counts (advanceCounts_live hst)
    refine ⟨_, exec_eq_of_node rfl hevent, rfl, hstate.trans (if_pos ht), hstale,
      hfail.trans (if_pos ht), fun z => ?_, hboundary⟩
    dsimp only
    rw [nextTracker_zone]
    exact trackZone_stands (hstate.trans (if_pos ht)) z
  · obtain ⟨hevent, hboundary⟩ := trackEvent_step hs ((failExpires_iff n).mpr ⟨hst, ht⟩) hw q
    rw [trackEvents_failed hst ht] at hevent hboundary
    obtain ⟨hstate, -, hfail⟩ := nextTracker_counts (advanceCounts_stale hst)
    refine ⟨_, exec_eq_of_node rfl hevent, rfl, hstate.trans (if_pos ht), hfail,
      fun z => ?_, hboundary⟩
    dsimp only
    rw [nextTracker_zone]
    exact trackZone_drops (.inr (hstate.trans (if_pos ht))) z
  · have hz := trackZone_target_of htarget
    obtain ⟨-, -, hrelease⟩ := trackZone_lift n z
    obtain ⟨hsmoothed, hcount⟩ := (hrelease (by omega)).1 hr
    obtain ⟨hevent, hboundary⟩ := trackEvent_step hs ((liftReleases_iff z n).mpr (by omega)) hw q
    refine ⟨_, exec_eq_of_node rfl hevent, rfl, ?_⟩
    dsimp only
    rw [nextTracker_zone]
    exact ⟨hz, by omega, hcount, hboundary⟩
  · have hcl := (zoneClipped_false_iff n z).mpr hclear
    rcases hc with ⟨rfl, hh⟩ | ⟨rfl, hh, hcode, hr⟩
    · obtain ⟨hevent, hboundary⟩ := guardEvent_step hs (guardHoldEnds_of hon hcl hh) hw q
      refine ⟨_, exec_eq_of_node rfl hevent, rfl, ?_, hboundary⟩
      dsimp only
      rw [ofFn_at, guardZone_clear hon hcl, guardClear_holds (by omega), if_pos hh, hh]
    · obtain ⟨hevent, hboundary⟩ := guardEvent_step hs (guardRecovers_of hon hcl hh hcode hr) hw q
      refine ⟨_, exec_eq_of_node rfl hevent, rfl, ?_, hboundary⟩
      dsimp only
      rw [ofFn_at, guardZone_clear hon hcl, guardClear_rises hh hcode hr, if_neg (by omega), hh]

end Sys2Proof.Machine
end

section
/-! PROOFS. The presence detectors, the ramp units, the count of STARTING and the completion of crossfades at a boundary
(R12, R99 to R104, R110, R140, R84, R86). -/

namespace Sys2Proof.Machine

/-! ### The presence detectors -/

section
variable {e : PresenceEntry} {d : Detector}

theorem judgeDetector_off (h : d.mode = .off) : judgeDetector e d = { d with present := false, quiet := 0 } := by
  simp only [judgeDetector, h]

theorem judgeDetector_on (h : d.mode = .on) : judgeDetector e d = { d with present := true, quiet := 0 } := by
  simp only [judgeDetector, h]

theorem judgeDetector_loud (h : d.mode = .auto) (hp : e.threshold ≤ d.peak) :
    judgeDetector e d = { d with present := true, quiet := 0 } := by
  simp only [judgeDetector, h, if_pos hp]

theorem judgeDetector_absent (h : d.mode = .auto) (hp : d.peak < e.threshold) (hd : d.present = false) :
    judgeDetector e d = { d with quiet := 0 } := by
  simp only [judgeDetector, h, if_neg (Nat.not_le.mpr hp), hd]
  rfl

theorem judgeDetector_expires (h : d.mode = .auto) (hp : d.peak < e.threshold) (hd : d.present = true)
    (hq : e.hold ≤ d.quiet + 1) : judgeDetector e d = { d with present := false, quiet := 0 } := by
  simp only [judgeDetector, h, if_neg (Nat.not_le.mpr hp), hd, if_pos hq, if_true]

theorem judgeDetector_holds (h : d.mode = .auto) (hp : d.peak < e.threshold) (hd : d.present = true)
    (hq : d.quiet + 1 < e.hold) : judgeDetector e d = { d with quiet := d.quiet + 1 } := by
  simp only [judgeDetector, h, if_neg (Nat.not_le.mpr hp), hd, if_neg (Nat.not_le.mpr hq), if_true]

end

theorem presenceExpires_of {p : Fin 4} {n : Node} (hm : n.detectors[p].mode = .auto)
    (hd : n.detectors[p].present = true) (hp : n.detectors[p].peak < n.tables.presence[p].threshold)
    (hq : n.tables.presence[p].hold ≤ n.detectors[p].quiet + 1) : presenceExpires p n = true := by
  rw [presenceExpires, hm, hd, decide_eq_true hp, decide_eq_true hq]
  rfl

/-- Settles O28, by the detector's mode, its peak and its quiet count. -/
theorem detectorJudgesTheBlock : Obligations.DetectorJudgesTheBlock := by
  unfold Obligations.DetectorJudgesTheBlock
  refine ⟨fun n q p hs hb => ?_, fun n q p hs hw hm hd hp hq => ?_⟩
  · refine ⟨_, by rw [exec_blockBoundary, completeBoundary_work hs hb, doWork, judgeProgram], rfl, ?_⟩
    dsimp only
    refine ⟨fun r hr => by rw [modifyVec_at, if_neg hr], ?_⟩
    rw [modifyVec_at, if_pos rfl]
    exact ⟨judgeDetector_off, judgeDetector_on, fun hm => ⟨judgeDetector_loud hm, fun hp =>
      ⟨judgeDetector_absent hm hp, fun hd => ⟨judgeDetector_expires hm hp hd, judgeDetector_holds hm hp hd⟩⟩⟩⟩
  · refine exec_eq_of_node rfl ((takeEvent_happens hs hw rfl (presenceExpires_of hm hd hp hq)).trans ?_)
    have hvec : modifyVec p (judgeDetector n.tables.presence[p]) n.detectors = .ofFn fun r =>
        if r = p then { n.detectors[p] with present := false, quiet := 0 } else n.detectors[r] := by
      refine vector_eq fun r => ?_
      rw [modifyVec_at, ofFn_at]
      by_cases hr : r = p
      · rw [if_pos hr, if_pos hr, hr, judgeDetector_expires hm hp hd hq]
      · rw [if_neg hr, if_neg hr]
    rw [doWork, judgeProgram, hvec]

/-! ### The ramp units -/

theorem rampStep_with (u : Fin 6) (n : Node) : rampStep u n = { n with
    ramps := putVec u (stepUnit n.tables.ramps[u] n.ramps[u]).1 n.ramps
    events := if (stepUnit n.tables.ramps[u] n.ramps[u]).2 then n.events ||| 0x200#13 else n.events } := by
  rw [rampStep, raiseIf_with]
  rfl

section
variable {l : RampList} {r v : RampUnit} {g : OpenSegment}

theorem stepUnit_hold (h : r.mode = .hold) : stepUnit l r = (r, false) := if_pos h

theorem stepUnit_end (h : r.mode ≠ .hold) (hin : inSegment l r = none) :
    stepUnit l r = ({ r with mode := .hold, done := true }, true) := by
  rw [stepUnit, if_neg h, hin]

theorem stepUnit_inside (h : r.mode ≠ .hold) (hin : inSegment l r = some v) (hg : v.segment = some g) :
    stepUnit l r = (if v.mode = .step then jumpToTarget g v else moveAlong g v, false) := by
  rw [stepUnit, if_neg h, hin]
  simp only [hg]

theorem inSegment_of_open (h : r.segment = some g) : inSegment l r = some r := by
  simp only [inSegment, h]

theorem inSegment_of_none (h : r.segment = none) : inSegment l r = enterSegment l r := by
  simp only [inSegment, h]

theorem enterSegment_at {s : Segment} (h : l.segments[r.index]? = some s) :
    enterSegment l r = some (openSegment r r.index s r.loops) := by
  simp only [enterSegment, h]

theorem loopEntry_eq {b : Fin 16} {s : Segment} (hb : l.loopStart = some b) (hs : l.segments[b.val]? = some s) :
    loopEntry l = some (b.val, s) := by
  simp only [loopEntry, hb, hs]

theorem loopEntry_none (h : l.loopStart = none ∨ ∃ b : Fin 16, l.loopStart = some b ∧ l.segments.length ≤ b.val) :
    loopEntry l = none := by
  rcases h with h | ⟨b, h, hb⟩
  · simp only [loopEntry, h]
  · simp only [loopEntry, h, List.getElem?_eq_none hb]

/-- R101: at the end of the list, the segment of the loop start is entered while loops remain. -/
theorem enterSegment_loops {s : Segment} {i : Nat} {loops : Loops} (h : l.segments.length ≤ r.index)
    (hs : loopEntry l = some (i, s))
    (hk : r.loops = .endless ∧ loops = .endless ∨ ∃ k, r.loops = .count (k + 1) ∧ loops = .count k) :
    enterSegment l r = some (openSegment r i s loops) := by
  rcases hk with ⟨hk, rfl⟩ | ⟨k, hk, rfl⟩ <;> simp only [enterSegment, List.getElem?_eq_none h, hs, hk]

/-- R101: the end of the list without repeat. -/
theorem enterSegment_none (h : l.segments.length ≤ r.index) (hs : r.loops = .count 0 ∨ loopEntry l = none) :
    enterSegment l r = none := by
  rcases hs with hs | hs
  · cases hl : loopEntry l with
    | none => simp only [enterSegment, List.getElem?_eq_none h, hl]
    | some p => simp only [enterSegment, List.getElem?_eq_none h, hl, hs]
  · simp only [enterSegment, List.getElem?_eq_none h, hs]

/-- R99, R101: the segment g that a unit is in, the one open or the one entered, with its index and its loops. -/
def InSegment (l : RampList) (r : RampUnit) (g : OpenSegment) (i : Nat) (loops : Loops) : Prop :=
  r.segment = some g ∧ i = r.index ∧ loops = r.loops ∨
  r.segment = none ∧ ∃ seg, l.segments[i]? = some seg ∧
    g = { start := r.output, target := seg.target, duration := seg.duration, position := 0 } ∧
    (i = r.index ∧ loops = r.loops ∨
      l.segments.length ≤ r.index ∧ (∃ b : Fin 16, l.loopStart = some b ∧ b.val = i) ∧
        (r.loops = .endless ∧ loops = .endless ∨ ∃ k, r.loops = .count (k + 1) ∧ loops = .count k))

variable {i : Nat} {loops : Loops}

theorem inSegment_eq (h : InSegment l r g i loops) :
    inSegment l r = some { r with index := i, segment := some g, loops := loops } := by
  rcases h with ⟨hg, rfl, rfl⟩ | ⟨hnone, seg, hseg, rfl, ⟨rfl, rfl⟩ | ⟨hend, ⟨b, hb, rfl⟩, hk⟩⟩
  · rw [inSegment_of_open hg, ← hg]
  · rw [inSegment_of_none hnone, enterSegment_at hseg]
    rfl
  · rw [inSegment_of_none hnone, enterSegment_loops hend (loopEntry_eq hb hseg) hk]
    rfl

theorem segmentOutput_last (g : OpenSegment) : segmentOutput g (g.duration + 1) = g.target := by
  have hd : (g.duration : Int) + 1 ≠ 0 := by omega
  rw [segmentOutput, trunc, Nat.cast_add, Nat.cast_one, Int.mul_tdiv_cancel _ hd]
  omega

/-- R103: a unit in STEP. -/
theorem stepUnit_jumps (hm : r.mode = .step) (h : InSegment l r g i loops) : stepUnit l r =
    ({ mode := .hold, index := i + 1, segment := none, loops := loops, output := g.target, done := r.done },
      false) := by
  rw [stepUnit_inside (by simp [hm]) (inSegment_eq h) rfl, if_pos hm]
  rfl

/-- R100: a unit in RUN or ONCE before the last block of its segment. -/
theorem stepUnit_moves (hm : r.mode = .run ∨ r.mode = .once) (h : InSegment l r g i loops)
    (hp : g.position < g.duration) : stepUnit l r =
    ({ mode := r.mode, index := i, segment := some { g with position := g.position + 1 }, loops := loops
       output := g.start + ((g.target - g.start) * (g.position + 1)).tdiv (g.duration + 1), done := r.done },
      false) := by
  have hends : segmentEnds g = false := decide_eq_false (by omega)
  rw [stepUnit_inside (by rcases hm with hm | hm <;> simp [hm]) (inSegment_eq h) rfl, if_neg, moveAlong, hends]
  · rfl
  · rcases hm with hm | hm <;> simp [hm]

/-- R100, R102: a unit in RUN or ONCE at the last block of its segment. -/
theorem stepUnit_closes (hm : r.mode = .run ∨ r.mode = .once) (h : InSegment l r g i loops)
    (hp : g.position = g.duration) : stepUnit l r =
    ({ mode := if r.mode = .once then .hold else .run, index := i + 1, segment := none, loops := loops
       output := g.target, done := r.done }, false) := by
  have hends : segmentEnds g = true := decide_eq_true (by omega)
  rw [stepUnit_inside (by rcases hm with hm | hm <;> simp [hm]) (inSegment_eq h) rfl, if_neg, moveAlong, hends,
    if_pos rfl, hp, segmentOutput_last]
  · rcases hm with hm | hm
    · rw [hm]
    · rw [hm]
      rfl
  · rcases hm with hm | hm <;> simp [hm]

end

/-- A unit's work alone is left of a boundary. -/
theorem completeBoundary_ramp {n : Node} {u : Fin 6} {x : RampUnit} {b : Bool}
    (hs : inService n.control.node = true) (hb : n.boundary = [.ramp u])
    (hx : stepUnit n.tables.ramps[u] n.ramps[u] = (x, b)) : completeBoundary n = { n with
      boundary := [], choice := n.choice + 1, ramps := putVec u x n.ramps
      events := if b then n.events ||| 0x200#13 else n.events } := by
  rw [completeBoundary_work hs hb, doWork, rampStep_with]
  dsimp only
  rw [hx]

theorem mode_run_or_once {m : RampMode} (hh : m ≠ .hold) (hs : m ≠ .step) : m = .run ∨ m = .once := by
  cases m <;> simp_all

/-- Settles O29, by the unit's mode and by the segment that it is in. -/
theorem rampUnitTakesItsStep : Obligations.RampUnitTakesItsStep := by
  unfold Obligations.RampUnitTakesItsStep
  intro n q u r l hs hb hr hl
  have hboundary := completeBoundary_ramp hs hb (x := (stepUnit l r).1) (b := (stepUnit l r).2) (by rw [hr, hl])
  refine ⟨_, by rw [exec_blockBoundary, hboundary], rfl, ?_⟩
  dsimp only
  rw [putVec_at, if_pos rfl]
  refine ⟨fun v hv => by rw [putVec_at, if_neg hv], fun hm => ?_, fun g i loops hm h => ?_, fun hm hnone hend h => ?_⟩
  · rw [stepUnit_hold hm]
    exact ⟨rfl, rfl⟩
  · replace h : InSegment l r g i loops := h
    refine ⟨?_, fun hst => ?_, fun hst hp => ?_, fun hst hp => ?_⟩
    · rw [stepUnit_inside hm (inSegment_eq h) rfl]
      rfl
    · rw [stepUnit_jumps hst h]
    · rw [stepUnit_moves (mode_run_or_once hm hst) h hp]
    · rw [stepUnit_closes (mode_run_or_once hm hst) h hp]
  · have hin : inSegment l r = none := by
      rw [inSegment_of_none hnone]
      exact enterSegment_none hend (h.imp_right loopEntry_none)
    rw [stepUnit_end hm hin]
    exact ⟨rfl, rfl⟩

theorem segmentCloses_of {n : Node} {u : Fin 6} {g : OpenSegment} {i : Nat} {loops : Loops}
    (hm : n.ramps[u].mode = .run ∨ n.ramps[u].mode = .once)
    (h : InSegment n.tables.ramps[u] n.ramps[u] g i loops) (hp : g.position = g.duration) :
    segmentCloses u n = true := by
  have hends : segmentEnds g = true := decide_eq_true (by omega)
  rw [segmentCloses, inSegment_eq h]
  rcases hm with hm | hm <;> rw [hm] <;> exact hends

/-- Settles O31: the segment that the unit is in stands at its last block. -/
theorem rampSegmentCloses : Obligations.RampSegmentCloses := by
  unfold Obligations.RampSegmentCloses
  rintro n q u _ _ target i loops hs hw rfl rfl hm h
  obtain ⟨g, hin, hp, rfl⟩ : ∃ g, InSegment n.tables.ramps[u] n.ramps[u] g i loops ∧ g.position = g.duration ∧
      target = g.target := by
    rcases h with ⟨⟨g, hg, hp, ht⟩, hi, hloops⟩ | ⟨hnone, hseg, hi⟩
    · exact ⟨g, .inl ⟨hg, hi, hloops⟩, hp, ht⟩
    · exact ⟨_, .inr ⟨hnone, _, hseg, rfl, hi⟩, rfl, rfl⟩
  refine exec_eq_of_node rfl ((takeEvent_happens hs hw rfl (segmentCloses_of hm hin hp)).trans ?_)
  rw [doWork, rampStep_with]
  dsimp only
  rw [stepUnit_closes hm hin hp]
  rfl

/-! ### The count of STARTING -/

theorem stateOfCode_eq (c : Code) :
    stateOfCode c = if c = .run then .active else if c = .quiet then .quiet else .halted := by
  cases c <;> rfl

section
variable {n : Node} (h : n.control.node = .starting)
include h

theorem countStarting_counts (hc : n.control.clearCount + 1 < 256) :
    countStarting n = { n with control := { n.control with clearCount := n.control.clearCount + 1 } } := by
  rw [countStarting, if_pos h, if_neg (by omega), ← h]

theorem countStarting_ends (hc : n.control.clearCount = 255) :
    countStarting n = { n with control := { n.control with
      clearCount := 256
      node := if n.link.accepted = .run then .active else if n.link.accepted = .quiet then .quiet else .halted } } := by
  rw [countStarting, if_pos h, if_pos (by omega), hc, stateOfCode_eq]

theorem startingEnds_of (hc : n.control.clearCount = 255) : startingEnds n = true := by
  rw [startingEnds, h, hc]
  rfl

end

/-- Settles O33. -/
theorem startingCountsAndEnds : Obligations.StartingCountsAndEnds := by
  unfold Obligations.StartingCountsAndEnds
  intro n q h
  have hs : inService n.control.node = true := by rw [h]; rfl
  refine ⟨fun hc hb => ?_, fun hc hb => ?_, fun hc hw htake => ?_⟩
  · refine exec_eq_of_node rfl ((completeBoundary_work hs hb).trans ?_)
    exact countStarting_counts (n := { n with boundary := [], choice := n.choice + 1 }) h hc
  · refine exec_eq_of_node rfl ((completeBoundary_work hs hb).trans ?_)
    exact countStarting_ends (n := { n with boundary := [], choice := n.choice + 1 }) h hc
  · have hmay : mayTake n .starting = true := by simpa [mayTake] using htake
    refine exec_eq_of_node rfl ((takeEvent_happens hs hw hmay (startingEnds_of h hc)).trans ?_)
    exact countStarting_ends (n := { n with boundary := n.boundary.erase .starting }) h hc

/-! ### The completion of a crossfade -/

/-- The slots after a speaker has taken slot i. -/
theorem putVec_ofFn {α : Type} {k : Nat} (i : Fin k) (a : α) (v : Vector α k) :
    putVec i a v = .ofFn fun j => if j = i then a else v[j] := rfl

section
variable {n : Node} {i : Fin 8}

theorem fadeDue_of {h : Held} (hi : n.eq.slots[i] = some h) (hd : 32 * h.length ≤ h.count) : fadeDue i n = true := by
  simp only [fadeDue, hi, decide_eq_true hd]

theorem completeFade_pending {h : Held} {t s : SetRef} (hi : n.eq.slots[i] = some h)
    (hd : 32 * h.length ≤ h.count) (hp : n.eq.records[h.speaker].phase = .fading t (some s)) :
    completeFade i n = startFade h.speaker i s (modifyRecord h.speaker completeRecord n) := by
  rw [completeFade, if_pos (fadeDue_of hi hd), hi]
  simp only [hp]

theorem completeFade_releases {h : Held} {t : SetRef} (hi : n.eq.slots[i] = some h)
    (hd : 32 * h.length ≤ h.count) (hp : n.eq.records[h.speaker].phase = .fading t none) :
    completeFade i n = releaseSlot i (modifyRecord h.speaker completeRecord n) := by
  rw [completeFade, if_pos (fadeDue_of hi hd), hi]
  simp only [hp]

theorem completionReleases_of {h : Held} {t : SetRef} (hi : n.eq.slots[i] = some h)
    (hd : 32 * h.length ≤ h.count) (hp : n.eq.records[h.speaker].phase = .fading t none) :
    completionReleases i n = true := by
  rw [completionReleases, fadeDue_of hi hd, hi]
  simp only [hp, Bool.and_true]

theorem handOver_idle (hi : n.eq.slots[i] = none) (hw : n.eq.waiting = []) : handOver i n = n := by
  simp only [handOver, hi, hw]

/-- R84: a slot that stands free goes to the head of the wait queue. -/
theorem handOver_next {w : Fin 24} {rest : List (Fin 24)} {s : SetRef} (hi : n.eq.slots[i] = none)
    (hw : n.eq.waiting = w :: rest) (hp : n.eq.records[w].phase = .waiting s) :
    handOver i n = startFade w i s { n with eq := { n.eq with waiting := rest } } := by
  simp only [handOver, hi, hw, hp]

end

/-- R86: the record of a completed crossfade. -/
def completedRecord (t : SetRef) (r : EqRecord) : EqRecord :=
  { r with phase := .idle, current := t, running := r.incoming, incoming := .replicate 8 {} }

/-- R79, R84, R86: the record at the start of a crossfade. -/
def startedRecord (s : SetRef) (r : EqRecord) : EqRecord :=
  { r with phase := .fading s none, incoming := .replicate 8 {} }

theorem completeRecord_eq {r : EqRecord} {t : SetRef} {p : Option SetRef} (h : r.phase = .fading t p) :
    completeRecord r = completedRecord t r := by
  rw [completeRecord_fading h]
  rfl

section
variable {n : Node} (k : Fin 24) (i : Fin 8) {t s : SetRef} {p : Option SetRef}

/-- R86: a speaker whose target is current and whose pending set starts in the same slot. -/
theorem startFade_completed (hp : n.eq.records[k].phase = .fading t p) :
    startFade k i s (modifyRecord k completeRecord n) = { n with eq := { n.eq with
      slots := .ofFn (fun j => if j = i then
        some { speaker := k, length := n.tables.nodeEntry.crossfadeLength, count := 0 } else n.eq.slots[j])
      records := .ofFn (fun j => if j = k then
        startedRecord s (completedRecord t n.eq.records[j]) else n.eq.records[j]) } } := by
  have hrec : modifyVec k (fun r => { r with phase := .fading s none, incoming := zeroChain })
      (modifyVec k completeRecord n.eq.records) = .ofFn (fun j => if j = k then
        startedRecord s (completedRecord t n.eq.records[j]) else n.eq.records[j]) := by
    refine vector_eq fun j => ?_
    rw [modifyVec_at, modifyVec_at, ofFn_at]
    by_cases hj : j = k
    · rw [if_pos hj, if_pos hj, if_pos hj, hj, completeRecord_eq hp]
      rfl
    · rw [if_neg hj, if_neg hj, if_neg hj]
  simp only [startFade, modifyRecord, putSlot, hrec, putVec_ofFn]

/-- R86: the node in which speaker k has completed its crossfade to set t and slot i stands free. -/
def releasedNode (n : Node) (i : Fin 8) (k : Fin 24) (t : SetRef) : Node :=
  { n with eq := { n.eq with
      slots := .ofFn (fun j => if j = i then none else n.eq.slots[j])
      records := .ofFn (fun j => if j = k then completedRecord t n.eq.records[j] else n.eq.records[j]) } }

theorem releasedNode_waiting (t : SetRef) : (releasedNode n i k t).eq.waiting = n.eq.waiting := by
  rw [releasedNode]

theorem putSlot_completed (hp : n.eq.records[k].phase = .fading t p) :
    putSlot i none (modifyRecord k completeRecord n) = releasedNode n i k t := by
  have hrec : modifyVec k completeRecord n.eq.records =
      .ofFn (fun j => if j = k then completedRecord t n.eq.records[j] else n.eq.records[j]) := by
    refine vector_eq fun j => ?_
    rw [modifyVec_at, ofFn_at]
    by_cases hj : j = k
    · rw [if_pos hj, if_pos hj, hj, completeRecord_eq hp]
    · rw [if_neg hj, if_neg hj]
  simp only [modifyRecord, putSlot, hrec, putVec_ofFn, releasedNode]

end

section
variable {n : Node} {i : Fin 8} {k w : Fin 24} {rest : List (Fin 24)} {t s : SetRef}

theorem startFade_eq : startFade k i s n = { n with eq := { n.eq with
    slots := .ofFn (fun j => if j = i then
      some { speaker := k, length := n.tables.nodeEntry.crossfadeLength, count := 0 } else n.eq.slots[j])
    records := .ofFn (fun j => if j = k then startedRecord s n.eq.records[j] else n.eq.records[j]) } } := by
  have hrec : modifyVec k (fun r => { r with phase := .fading s none, incoming := zeroChain }) n.eq.records =
      .ofFn (fun j => if j = k then startedRecord s n.eq.records[j] else n.eq.records[j]) := rfl
  simp only [startFade, modifyRecord, putSlot, hrec, putVec_ofFn]

/-- R84, R86: the slot of a completed crossfade goes to the head of the wait queue. -/
theorem releaseSlot_handsOver (hp : n.eq.records[k].phase = .fading t none) (hw : n.eq.waiting = w :: rest)
    (hq : n.eq.records[w].phase = .waiting s) :
    releaseSlot i (modifyRecord k completeRecord n) = { n with eq := { n.eq with
      waiting := rest
      slots := .ofFn (fun j => if j = i then
        some { speaker := w, length := n.tables.nodeEntry.crossfadeLength, count := 0 } else n.eq.slots[j])
      records := .ofFn (fun j => if j = k then completedRecord t n.eq.records[j]
        else if j = w then startedRecord s n.eq.records[j] else n.eq.records[j]) } } := by
  have hwk : w ≠ k := by
    rintro rfl
    rw [hp] at hq
    cases hq
  have hslots : Vector.ofFn (fun j : Fin 8 => if j = i then
        some { speaker := w, length := n.tables.nodeEntry.crossfadeLength, count := 0 }
      else (Vector.ofFn fun j : Fin 8 => if j = i then none else n.eq.slots[j])[j]) = .ofFn (fun j => if j = i then
        some { speaker := w, length := n.tables.nodeEntry.crossfadeLength, count := 0 } else n.eq.slots[j]) := by
    refine vector_eq fun j => ?_
    rw [ofFn_at, ofFn_at, ofFn_at]
    split <;> rfl
  have hrecords : Vector.ofFn (fun j : Fin 24 => if j = w then
        startedRecord s (Vector.ofFn fun j : Fin 24 =>
          if j = k then completedRecord t n.eq.records[j] else n.eq.records[j])[j]
      else (Vector.ofFn fun j : Fin 24 => if j = k then completedRecord t n.eq.records[j] else n.eq.records[j])[j]) =
      .ofFn (fun j => if j = k then completedRecord t n.eq.records[j]
        else if j = w then startedRecord s n.eq.records[j] else n.eq.records[j]) := by
    refine vector_eq fun j => ?_
    rw [ofFn_at, ofFn_at, ofFn_at]
    by_cases hj : j = w
    · rw [if_pos hj, if_pos hj, hj, if_neg hwk, if_neg hwk]
    · rw [if_neg hj, if_neg hj]
  have hfree : (releasedNode n i k t).eq.slots[i] = none := by
    rw [releasedNode, ofFn_at, if_pos rfl]
  have hwaits : (releasedNode n i k t).eq.records[w].phase = .waiting s := by
    rw [releasedNode, ofFn_at, if_neg hwk, hq]
  rw [releaseSlot, putSlot_completed k i hp, handOver_next hfree ((releasedNode_waiting k i t).trans hw) hwaits, startFade_eq, releasedNode]
  dsimp only
  rw [hslots, hrecords]

/-- R84, R86: the slot of a completed crossfade stands free where no speaker waits. -/
theorem releaseSlot_frees (hp : n.eq.records[k].phase = .fading t none) (hw : n.eq.waiting = []) :
    releaseSlot i (modifyRecord k completeRecord n) = { n with eq := { n.eq with
      slots := .ofFn (fun j => if j = i then none else n.eq.slots[j])
      records := .ofFn (fun j => if j = k then completedRecord t n.eq.records[j] else n.eq.records[j]) } } := by
  have hfree : (releasedNode n i k t).eq.slots[i] = none := by
    rw [releasedNode, ofFn_at, if_pos rfl]
  rw [releaseSlot, putSlot_completed k i hp, handOver_idle hfree ((releasedNode_waiting k i t).trans hw), releasedNode]

end

theorem mayTake_complete {n : Node} {i : Fin 8}
    (h : ∀ j : Fin 8, j < i → .complete j ∈ n.boundary → fadeDue j n = false) : mayTake n (.complete i) = true := by
  simp only [mayTake, List.all_eq_true, List.mem_finRange, true_imp_iff, Bool.not_eq_true', Bool.and_eq_false_iff,
    decide_eq_false_iff_not, List.contains_eq_mem]
  intro j
  by_cases hj : j < i
  · by_cases hm : Work.complete j ∈ n.boundary
    · exact .inr (h j hj hm)
    · exact .inl (.inr hm)
  · exact .inl (.inl hj)

/-- Settles O32, by the pending set and the wait queue. -/
theorem crossfadeCompletes : Obligations.CrossfadeCompletes := by
  unfold Obligations.CrossfadeCompletes
  refine ⟨fun n q i h t p hs hw hfirst hi hd hp => ⟨?_, ?_, ?_⟩, fun n q i w rest s hi hw hp => ?_⟩
  · rintro s rfl
    refine exec_eq_of_node rfl ((takeEvent_happens hs hw (mayTake_complete hfirst) (fadeDue_of hi hd)).trans ?_)
    rw [doWork, completeFade_pending (n := { n with boundary := n.boundary.erase (.complete i) }) hi hd hp,
      startFade_completed (n := { n with boundary := n.boundary.erase (.complete i) }) h.speaker i hp]
    rfl
  · rintro rfl hwait
    refine exec_eq_of_node rfl ((takeEvent_happens hs hw (mayTake_complete hfirst) (fadeDue_of hi hd)).trans ?_)
    rw [doWork, completeFade_releases (n := { n with boundary := n.boundary.erase (.complete i) }) hi hd hp,
      releaseSlot_frees (n := { n with boundary := n.boundary.erase (.complete i) }) hp hwait]
    rfl
  · rintro w rest s c rfl hwait hq hc
    have htake {b : Bool} (hb : b = true) := (takeEvent_happens hs hw (mayTake_complete hfirst) hb).trans
      ((completeFade_releases (n := { n with boundary := n.boundary.erase (.complete i) }) hi hd hp).trans
        (releaseSlot_handsOver (n := { n with boundary := n.boundary.erase (.complete i) }) hp hwait hq))
    rcases hc with rfl | rfl
    · exact exec_eq_of_node rfl (htake (fadeDue_of hi hd))
    · refine exec_eq_of_node rfl ((if_neg ?_).trans (htake ?_))
      · rw [hi]
        exact Bool.false_ne_true
      · rw [completionReleases_of hi hd hp, hwait]
        rfl
  · refine exec_eq_of_node rfl ((if_pos ?_).trans ?_)
    · rw [hi]
      rfl
    · rw [handOver_next hi hw hp, startFade_eq]
      rfl

end Sys2Proof.Machine
end

section
/-! PROOFS. The level composition of a boundary, its slews, and the order in which a boundary takes its works (R16, R17,
R35 to R40, R63, R95, R155). -/

namespace Sys2Proof.Machine

/-! ### The terms of the targets -/

/-- The smallest of a start value and the values of the entries that count. -/
theorem foldl_minIf_spec {α : Type} (c : α → Prop) [DecidablePred c] (f : α → Int) (l : List α) (a : Int) :
    l.foldl (fun d i => if c i then min d (f i) else d) a ≤ a ∧
    (∀ i ∈ l, c i → l.foldl (fun d i => if c i then min d (f i) else d) a ≤ f i) ∧
    (l.foldl (fun d i => if c i then min d (f i) else d) a = a ∨
      ∃ i ∈ l, c i ∧ l.foldl (fun d i => if c i then min d (f i) else d) a = f i) := by
  induction l generalizing a with
  | nil => simp
  | cons x l ih =>
    obtain ⟨hstart, hmem, hval⟩ := ih (if c x then min a (f x) else a)
    rw [List.foldl_cons]
    refine ⟨hstart.trans (by split <;> omega), fun i hi hc => ?_, ?_⟩
    · rcases List.mem_cons.mp hi with rfl | hi
      · rw [if_pos hc] at hstart ⊢
        omega
      · exact hmem i hi hc
    · rcases hval with hval | ⟨i, hi, hc, hval⟩
      · by_cases hc : c x
        · rw [if_pos hc] at hval ⊢
          rcases le_total a (f x) with h | h
          · left; omega
          · exact .inr ⟨x, by simp, hc, by omega⟩
        · rw [if_neg hc] at hval ⊢
          exact .inl hval
      · exact .inr ⟨i, by simp [hi], hc, hval⟩

/-- R16: the duck code is 0 or below, not above a code of a present ducking program, and one of these. -/
theorem duckCode_unique {n : Node} {z p : Fin 4} {d : Int} (hzero : d ≤ 0)
    (hle : ∀ r : Fin 4, r ≠ p → n.detectors[r].present = true → d ≤ n.tables.duck[duckIndex z r p])
    (hval : d = 0 ∨ ∃ r : Fin 4, r ≠ p ∧ n.detectors[r].present = true ∧ d = n.tables.duck[duckIndex z r p]) :
    d = duckCode n z p := by
  obtain ⟨hzero', hle', hval'⟩ := foldl_minIf_spec
    (fun r : Fin 4 => r ≠ p ∧ n.detectors[r].present = true) (fun r => n.tables.duck[duckIndex z r p])
    (List.finRange 4) 0
  refine le_antisymm ?_ ?_
  · rcases hval' with h | ⟨r, _, ⟨hr, hp⟩, h⟩
    · exact hzero.trans h.ge
    · exact (hle r hr hp).trans h.ge
  · rcases hval with h | ⟨r, hr, hp, h⟩
    · exact hzero'.trans h.ge
    · exact (hle' r (List.mem_finRange r) ⟨hr, hp⟩).trans h.ge

theorem pairZone_pairIndex (z p : Fin 4) : pairZone (pairIndex z p) = z := by
  apply Fin.ext
  simp only [pairZone, pairIndex]
  omega

theorem pairProgram_pairIndex (z p : Fin 4) : pairProgram (pairIndex z p) = p := by
  apply Fin.ext
  simp only [pairProgram, pairIndex]
  omega

/-- R40: the output of a ramp unit that a record names, or 0. -/
theorem rampOutput_unique {n : Node} {o : Option (Fin 6)} {ramp : Int} (h : ∀ u, o = some u → ramp = n.ramps[u].output)
    (hnone : o = none → ramp = 0) : ramp = rampOutput n o := by
  cases o with
  | none => exact hnone rfl
  | some u => exact h u rfl

theorem balanceAttenuation_eq (n : Node) (b : Int) (side : Side) :
    balanceAttenuation n b side =
      if (side = .left ∧ 0 ≤ b) ∨ (side = .right ∧ b ≤ 0) then n.tables.balance.toList.getD b.natAbs 0 else 0 := by
  cases side <;> simp [balanceAttenuation, curveAt]

theorem fadeAttenuation_eq (n : Node) (f : Int) (along : CabinEnd) :
    fadeAttenuation n f along =
      if (along = .front ∧ 0 ≤ f) ∨ (along = .rear ∧ f ≤ 0) then n.tables.balance.toList.getD f.natAbs 0
      else if along = .mid then (n.tables.balance.toList.getD f.natAbs 0).tdiv 2 else 0 := by
  cases along <;> simp [fadeAttenuation, curveAt, trunc]

theorem targetForced_iff (n : Node) (k : Fin 24) : targetForced n k = true ↔
    n.live.mutes[k] = true ∨ n.live.zones[n.tables.speakers[k].zone].mute = true ∨ n.control.node = .quiet := by
  simp only [targetForced, Bool.or_eq_true, beq_iff_eq, or_assoc]

theorem composePair_at (n : Node) (z p : Fin 4) : composePair n (pairIndex z p) =
    formGain 0
      (smooth n.tables.zones[z].downSlew n.tables.zones[z].upSlew (pairTarget n z p)
        n.levels.pairs[pairIndex z p].applied)
      (rampOutput n n.tables.pairs[pairIndex z p].ramp) := by
  simp only [composePair, pairZone_pairIndex, pairProgram_pairIndex]

/-! ### The composition -/

theorem audioRuns_of {s : NodeState} (h : s = .quiet ∨ s = .active) :
    audioRuns s = true ∧ inService s = true := by
  rcases h with rfl | rfl <;> decide

/-- The composition alone is left of a boundary in QUIET or ACTIVE. -/
theorem completeBoundary_compose {n : Node} (h : n.control.node = .quiet ∨ n.control.node = .active)
    (hb : n.boundary = [.compose]) : completeBoundary n = { n with
      boundary := [], choice := n.choice + 1
      levels := { n.levels with pairs := .ofFn (composePair n), speakers := .ofFn (composeSpeaker n) } } := by
  obtain ⟨haudio, hs⟩ := audioRuns_of h
  rw [completeBoundary_work hs hb, doWork, composeLevels, if_pos haudio]
  rfl

/-- Settles O22: the target, the smoother step and the ramp output of one pair. -/
theorem composesPairs : Obligations.ComposesPairs := by
  unfold Obligations.ComposesPairs
  intro n q h hb
  refine ⟨_, by rw [exec_blockBoundary, completeBoundary_compose h hb], rfl, ?_⟩
  intro z p target ducked applied hzero hle hval htarget happlied
  dsimp only
  have hpair : pairTarget n z p = target := by
    rw [pairTarget, clamp, ← duckCode_unique hzero hle hval, htarget]
  rw [ofFn_at, composePair_at, hpair]
  refine ⟨happlied.symm, fun ramp hramp hnone => ?_, rfl⟩
  rw [rampOutput_unique hramp hnone, happlied]
  rfl

/-- The shelf's work alone is left of a boundary in QUIET or ACTIVE. -/
theorem completeBoundary_shelf {n : Node} (h : n.control.node = .quiet ∨ n.control.node = .active)
    (hb : n.boundary = [.shelf]) : completeBoundary n = { n with
      boundary := [], choice := n.choice + 1
      eq := { n.eq with
        zoneGain := .ofFn fun z => linearGain n.tracker.zones[z].bass, flatShelf := .replicate 24 false } } := by
  obtain ⟨haudio, hs⟩ := audioRuns_of h
  rw [completeBoundary_work hs hb, doWork, formShelf, if_pos haudio]

theorem speakerTarget_eq {n : Node} {k : Fin 24} {x : Int} (hx : speakerSum n k = x) : speakerTarget n k =
    if n.live.mutes[k] = true ∨ n.live.zones[n.tables.speakers[k].zone].mute = true ∨ n.control.node = .quiet
    then -960 else max (-960) (min 192 x) := by
  rw [speakerTarget, hx, clamp]
  exact if_congr (targetForced_iff n k) rfl rfl

/-- Settles O23: the five terms of a speaker's target and its smoother step; the gains that the shelf forms. -/
theorem composesSpeakersAndFormsTheShelf : Obligations.ComposesSpeakersAndFormsTheShelf := by
  unfold Obligations.ComposesSpeakersAndFormsTheShelf
  refine ⟨fun n q h hb => ?_, fun n q h hb => ?_⟩
  · refine ⟨_, by rw [exec_blockBoundary, completeBoundary_compose h hb], ?_⟩
    rintro k z balance fade lift target applied rfl hbalance hfade hlift htarget happlied
    dsimp only
    rw [ofFn_at]
    refine ⟨fun hoff => by rw [composeSpeaker, hoff]; rfl, fun hon => ?_⟩
    have hsum : speakerSum n k = n.tables.speakers[k].trim + balance + fade + lift +
        n.guards[n.tables.speakers[k].zone].code := by
      rw [speakerSum, balanceAttenuation_eq, fadeAttenuation_eq, appliedLift, ← hbalance, ← hfade, ← hlift]
    rw [composeSpeaker, if_pos hon, speakerTarget_eq hsum, ← htarget]
    refine ⟨happlied.symm, fun ramp hramp hnone => ?_, rfl⟩
    rw [rampOutput_unique hramp hnone, happlied]
    rfl
  · refine ⟨_, by rw [exec_blockBoundary, completeBoundary_shelf h hb], rfl, fun k => ?_⟩
    rw [shelfGain]
    dsimp only
    rw [replicate_at, ofFn_at]
    rfl

/-! ### The order of a boundary -/

/-- What a work that may be taken next waits for: the setting lane after the live lane, due completions in slot order,
the end of STARTING not inside the executor's take, a RAMP_CONTROL not between the steps of its units. -/
theorem mayTake_spec {n : Node} {w : Work} (h : mayTake n w = true) :
    (w = .settingTake → .liveTake ∉ n.boundary) ∧
    (∀ i j : Fin 8, w = .complete i → j < i → .complete j ∈ n.boundary → fadeDue j n = false) ∧
    (w = .starting → .liveTake ∈ n.boundary ∨ .settingTake ∉ n.boundary) ∧
    (w = .liveTake → rampControlSplit n = false) := by
  refine ⟨?_, ?_, ?_, ?_⟩
  · rintro rfl
    simpa [mayTake] using h
  · rintro i j rfl hj hm
    simp only [mayTake, List.all_eq_true, List.mem_finRange, true_imp_iff, Bool.not_eq_true',
      Bool.and_eq_false_iff, decide_eq_false_iff_not, List.contains_eq_mem] at h
    rcases h j with (hlt | hmem) | hdue
    · exact absurd hj hlt
    · exact absurd hm hmem
    · exact hdue
  · rintro rfl
    simpa [mayTake] using h
  · rintro rfl
    simpa [mayTake] using h

/-- R105: a RAMP_CONTROL at the head of the live lane that splits no steps. -/
theorem splitsUnits_of_head {n : Node} {r : Message} {rest : List Message} {mask : Byte} {others : List Byte}
    (h : rampControlSplit n = false) (hq : n.liveLane.queue = r :: rest)
    (hk : requestKind .live r = some .rampControl) (hp : r.payload = mask :: others) :
    splitsUnits mask.toNat n.boundary = false := by
  simpa only [rampControlSplit, hq, hk, hp, beq_self_eq_true, Bool.true_and] using h

/-- A boundary is the taking of the work that is next, and the boundary that this leaves. -/
theorem completeBoundary_takes {n : Node} {w : Work} (hw : nextWork n = some w) :
    completeBoundary n = completeBoundary (takeWork w { n with choice := n.choice + 1 }) := by
  have hmem := (nextWork_mem n w hw).1
  have hlen : n.boundary.length = (takeWork w { n with choice := n.choice + 1 }).boundary.length + 1 := by
    have hpos := List.length_pos_of_mem hmem
    rw [(takeWork_outer w { n with choice := n.choice + 1 }).2.1, List.length_erase_of_mem hmem]
    omega
  rw [completeBoundary, hlen, runWorks, hw, completeBoundary]

/-- Settles O20: the work taken next, and what the boundary does after it. -/
theorem blockBoundaryTakesEveryWorkOnce : Obligations.BlockBoundaryTakesEveryWorkOnce := by
  unfold Obligations.BlockBoundaryTakesEveryWorkOnce
  intro n q
  refine ⟨⟨_, exec_blockBoundary n q, (completeBoundary_outer n).2⟩,
    fun hb => by rw [exec_blockBoundary, completeBoundary_nil n hb], fun hb => ?_⟩
  obtain ⟨w, hw⟩ := nextWork_some n hb
  obtain ⟨hmem, hmay⟩ := nextWork_mem n w hw
  obtain ⟨hsetting, hcomplete, hstarting, hlive⟩ := mayTake_spec hmay
  refine ⟨w, _, hmem, hsetting, hcomplete, hstarting, fun r rest mask others hl hq hk hp => ?_, rfl,
    (takeWork_outer w { n with choice := n.choice + 1 }).2.1, ?_⟩
  · exact (splitsUnits_eq_false _ _).mp (splitsUnits_of_head (hlive hl) hq hk hp)
  · rw [exec_blockBoundary, exec_blockBoundary, completeBoundary_takes hw]

/-! ### The slews of a boundary -/

/-- The tables and the levels that a composition reads stand. -/
structure SameGains (n m : Node) : Prop where
  tables : m.tables = n.tables
  pairs : m.levels.pairs = n.levels.pairs
  speakers : m.levels.speakers = n.levels.speakers

theorem SameGains.trans {a b c : Node} (h : SameGains a b) (g : SameGains b c) : SameGains a c :=
  ⟨g.tables.trans h.tables, g.pairs.trans h.pairs, g.speakers.trans h.speakers⟩

theorem SameGains.refl (n : Node) : SameGains n n := ⟨rfl, rfl, rfl⟩

theorem OnlyEq.sameGains {n m : Node} (h : OnlyEq n m) : SameGains n m :=
  ⟨h.tables, congrArg Levels.pairs h.levels, congrArg Levels.speakers h.levels⟩

theorem evaluateBand_sameGains (n : Node) : SameGains n (evaluateBand n) := by
  obtain ⟨t, h⟩ := evaluateBand_onlyEq n
  exact ⟨h.tables, congrArg Levels.pairs h.levels, congrArg Levels.speakers h.levels⟩

theorem validReport_sameGains (raw : Nat) (n : Node) : SameGains n (validReport raw n) := by
  unfold validReport
  refine SameGains.trans ?_ (evaluateBand_sameGains _)
  exact ⟨rfl, rfl, rfl⟩

theorem carrySpeed_sameGains (payload : List Byte) (n : Node) : SameGains n (carrySpeed payload n) := by
  unfold carrySpeed
  repeat' split
  · exact validReport_sameGains _ n
  · exact ⟨rfl, rfl, rfl⟩
  · exact ⟨rfl, rfl, rfl⟩
  · exact .refl n

theorem modifyZones_sameGains (mask : Nat) (f : ZoneLive → ZoneLive) (n : Node) : SameGains n (modifyZones mask f n) :=
  ⟨rfl, rfl, rfl⟩

theorem muteSpeakers_sameGains (mask : Nat) (on : Bool) (n : Node) : SameGains n (muteSpeakers mask on n) := by
  constructor <;> rw [muteSpeakers]

/-- A message of the live lane writes no table and moves no level. -/
theorem carryOut_sameGains {k : Kind} (h : kindLane k = .live) (m : Message) (n : Node) :
    SameGains n (carryOut k m n) := by
  cases k with
  | tableWrite => cases h
  | tableRead => cases h
  | eqSelect => cases h
  | identRead => cases h
  | speed => exact carrySpeed_sameGains m.payload n
  | level =>
    simp only [carryOut, carryLevel]
    repeat' split
    all_goals exact ⟨rfl, rfl, rfl⟩
  | programTrim =>
    simp only [carryOut, carryProgramTrim]
    repeat' split
    all_goals exact ⟨rfl, rfl, rfl⟩
  | balanceFade =>
    simp only [carryOut, carryBalanceFade]
    repeat' split
    all_goals exact ⟨rfl, rfl, rfl⟩
  | mute =>
    simp only [carryOut, carryMute]
    repeat' split
    · exact modifyZones_sameGains _ _ n
    · exact muteSpeakers_sameGains _ _ n
    · exact ⟨rfl, rfl, rfl⟩
    · exact ⟨rfl, rfl, rfl⟩
    · exact .refl n
  | cabin =>
    simp only [carryOut, carryCabin]
    split <;> exact ⟨rfl, rfl, rfl⟩
  | presence =>
    simp only [carryOut, carryPresence]
    repeat' split
    all_goals exact ⟨rfl, rfl, rfl⟩
  | rampControl =>
    simp only [carryOut, carryRampControl]
    repeat' split
    all_goals exact ⟨rfl, rfl, rfl⟩
  | statusRead =>
    simp only [carryOut, carryStatusRead]
    repeat' split
    all_goals constructor <;> simp [clearClipCount]

theorem kindLane_of_requestKind {l : LaneId} {m : Message} {k : Kind} (h : requestKind l m = some k) :
    kindLane k = l := by
  simp only [requestKind] at h
  split at h
  · split at h
    · rename_i hl
      cases h
      exact hl.1
    · cases h
  · cases h

theorem perform_sameGains (m : Message) (n : Node) : SameGains n (perform .live m n) := by
  unfold perform
  split
  · rename_i k hk
    exact carryOut_sameGains (kindLane_of_requestKind hk) m n
  · exact (raise_onlyEq _ _).sameGains

theorem perform_settingLane (l : LaneId) (m : Message) (n : Node) :
    (perform l m n).settingLane = n.settingLane := by
  unfold perform
  split
  · exact (carryOut_sameOuter _ m n).settingLane
  · rfl

theorem popLane_live_keeps (n : Node) : SameGains n (popLane .live n) ∧ (popLane .live n).settingLane = n.settingLane :=
  ⟨⟨rfl, rfl, rfl⟩, rfl⟩

theorem takeLane_sameGains (n : Node) :
    SameGains n (takeLane .live n) ∧ (takeLane .live n).settingLane = n.settingLane := by
  unfold takeLane
  repeat' split
  · exact ⟨.refl n, rfl⟩
  · exact ⟨.refl n, rfl⟩
  · obtain ⟨hpop, hlane⟩ := popLane_live_keeps n
    exact ⟨hpop.trans (perform_sameGains _ _), (perform_settingLane _ _ _).trans hlane⟩
  · exact ⟨.refl n, rfl⟩

/-- Every work but the composition, with an empty setting queue. -/
theorem doWork_sameGains {w : Work} {n : Node} (hw : w ≠ .compose) (hq : n.settingLane.queue = []) :
    SameGains n (doWork w n) ∧ (doWork w n).settingLane = n.settingLane := by
  cases w with
  | compose => exact absurd rfl hw
  | liveTake => exact takeLane_sameGains n
  | settingTake =>
    have hstand : takeLane .setting n = n := by
      simp only [takeLane, laneOf, hq, ite_self]
    rw [doWork, hstand]
    exact ⟨.refl n, rfl⟩
  | complete i => exact ⟨(completeFade_onlyEq i n).sameGains, (completeFade_onlyEq i n).settingLane⟩
  | judge p => exact ⟨⟨rfl, rfl, rfl⟩, rfl⟩
  | track => exact ⟨by constructor <;> simp [doWork, trackStep], by simp [doWork, trackStep]⟩
  | guardStep => exact ⟨by constructor <;> simp [doWork, Machine.guardStep], by simp [doWork, Machine.guardStep]⟩
  | ramp u => exact ⟨by constructor <;> simp [doWork, rampStep], by simp [doWork, rampStep]⟩
  | shelf =>
    simp only [doWork, formShelf]
    split <;> exact ⟨⟨rfl, rfl, rfl⟩, rfl⟩
  | starting =>
    simp only [doWork, countStarting]
    split <;> exact ⟨⟨rfl, rfl, rfl⟩, rfl⟩

/-- R17, R39: no applied code has moved further than its slew. -/
def WithinSlews (t : Tables) (old new : Levels) : Prop :=
  (∀ z p : Fin 4,
    old.pairs[pairIndex z p].applied - t.zones[z].downSlew ≤ new.pairs[pairIndex z p].applied ∧
    new.pairs[pairIndex z p].applied ≤ old.pairs[pairIndex z p].applied + t.zones[z].upSlew) ∧
  ∀ k : Fin 24,
    old.speakers[k].applied - t.zones[t.speakers[k].zone].speakerSlew ≤ new.speakers[k].applied ∧
    new.speakers[k].applied ≤ old.speakers[k].applied + t.zones[t.speakers[k].zone].speakerSlew

theorem WithinSlews.congr {t : Tables} {old old' new new' : Levels} (h : WithinSlews t old new)
    (hp : old'.pairs = old.pairs) (hs : old'.speakers = old.speakers) (hp' : new'.pairs = new.pairs)
    (hs' : new'.speakers = new.speakers) : WithinSlews t old' new' := by
  unfold WithinSlews
  rw [hp, hs, hp', hs']
  exact h

theorem withinSlews_refl (t : Tables) (l : Levels) : WithinSlews t l l := ⟨fun z p => by omega, fun k => by omega⟩

theorem smooth_slew (down up : Nat) (target applied : Int) :
    applied - down ≤ smooth down up target applied ∧ smooth down up target applied ≤ applied + up := by
  unfold smooth
  split <;> omega

theorem composeLevels_withinSlews {n : Node} {t : Tables} (ht : n.tables = t) :
    WithinSlews t n.levels (composeLevels n).levels := by
  subst ht
  unfold composeLevels
  split
  · refine ⟨fun z p => ?_, fun k => ?_⟩
    · dsimp only
      rw [ofFn_at, composePair_at]
      exact smooth_slew _ _ _ _
    · dsimp only
      rw [ofFn_at, composeSpeaker]
      split
      · exact smooth_slew _ _ _ _
      · omega
  · exact withinSlews_refl n.tables n.levels

/-- What stands in the course of a boundary that writes no table: the composition is still to come and nothing has
moved, or it has been taken and every code is within its slew. -/
structure Slewing (n m : Node) : Prop where
  queue : m.settingLane.queue = []
  tables : m.tables = n.tables
  codes : SameGains n m ∧ m.boundary.count .compose ≤ 1 ∨
    .compose ∉ m.boundary ∧ WithinSlews n.tables n.levels m.levels

theorem Slewing.withinSlews {n m : Node} (h : Slewing n m) : WithinSlews n.tables n.levels m.levels := by
  rcases h.codes with ⟨hsame, -⟩ | ⟨-, hwithin⟩
  · exact (withinSlews_refl n.tables n.levels).congr rfl rfl hsame.pairs hsame.speakers
  · exact hwithin

/-- A work that leaves the levels and the setting lane alone. -/
theorem Slewing.of_sameGains {n m k : Node} {w : Work} (h : Slewing n m) (hs : SameGains m k)
    (hl : k.settingLane = m.settingLane) (hb : k.boundary = m.boundary.erase w) : Slewing n k := by
  refine ⟨by rw [hl, h.queue], hs.tables.trans h.tables, ?_⟩
  rw [hb]
  rcases h.codes with ⟨hsame, hone⟩ | ⟨hnone, hwithin⟩
  · exact .inl ⟨hsame.trans hs, (List.erase_sublist.count_le _).trans hone⟩
  · exact .inr ⟨fun h => hnone (List.mem_of_mem_erase h), hwithin.congr rfl rfl hs.pairs hs.speakers⟩

/-- R35: the composition itself, taken once. -/
theorem Slewing.composes {n m : Node} (h : Slewing n m) (hw : .compose ∈ m.boundary) :
    Slewing n (composeLevels { m with boundary := m.boundary.erase .compose }) := by
  obtain ⟨hqueue, htables, ⟨hsame, hone⟩ | ⟨hnone, -⟩⟩ := h
  · have hstep := composeLevels_withinSlews (n := { m with boundary := m.boundary.erase .compose }) htables
    have hnone : .compose ∉ m.boundary.erase .compose := by
      rw [← List.count_eq_zero, List.count_erase_self]
      omega
    refine ⟨?_, ?_, .inr ⟨?_, hstep.congr hsame.pairs.symm hsame.speakers.symm rfl rfl⟩⟩
    all_goals unfold composeLevels
    all_goals split
    all_goals first | exact hqueue | exact htables | exact hnone
  · exact absurd hw hnone

theorem takeWork_slewing {n m : Node} {w : Work} (h : Slewing n m) (hw : w ∈ m.boundary) :
    Slewing n (takeWork w m) := by
  have hboundary := (takeWork_outer w m).2.1
  by_cases hs : inService m.control.node = true
  · by_cases hc : w = .compose
    · subst hc
      rw [takeWork_inService .compose m hs]
      exact h.composes hw
    · rw [takeWork_inService w m hs] at hboundary ⊢
      obtain ⟨hsame, hlane⟩ := doWork_sameGains (n := { m with boundary := m.boundary.erase w }) hc h.queue
      exact h.of_sameGains ⟨hsame.tables, hsame.pairs, hsame.speakers⟩ hlane hboundary
  · rw [takeWork, if_neg hs]
    exact h.of_sameGains (w := w) ⟨rfl, rfl, rfl⟩ rfl rfl

/-- Settles O21: the invariant of a boundary's course. -/
theorem boundaryObeysTheSlews : Obligations.BoundaryObeysTheSlews := by
  unfold Obligations.BoundaryObeysTheSlews
  intro n m q hq hb he
  rw [exec_blockBoundary] at he
  cases he
  exact (runWorks_keeps (Slewing n)
    (fun m w h hw _ => takeWork_slewing (m := { m with choice := m.choice + 1 }) 
      ⟨h.queue, h.tables, h.codes.imp_left fun ⟨hs, hone⟩ => ⟨⟨hs.tables, hs.pairs, hs.speakers⟩, hone⟩⟩ hw) _ n
    ⟨hq, rfl, .inl ⟨.refl n, hb⟩⟩).withinSlews

end Sys2Proof.Machine
end

section
/-! PROOFS. The lanes: cells on an assembly record, the assembly of a whole message, and when the executor takes a lane
(R150 to R157). -/

namespace Sys2Proof.Machine

/-! ### Cells on an assembly record -/

section
variable {l : LaneId} {n : Node}

theorem laneOf_setAssembly (a : Assembly) : laneOf l (setAssembly l a n) = { laneOf l n with assembly := a } := by
  cases l <;> rfl

theorem setAssembly_setAssembly (a b : Assembly) : setAssembly l a (setAssembly l b n) = setAssembly l a n := by
  cases l <;> rfl

theorem raise_setAssembly (a : Assembly) : raise .malformed (setAssembly l a n) =
    withLane l { laneOf l n with assembly := a } { n with events := n.events ||| 0x4#13 } := by
  cases l <;> rfl

theorem takeCell_ready (h : (laneOf l n).assembly = .ready) (b : Byte) :
    takeCell l ⟨.idle, b⟩ n = n ∧ takeCell l ⟨.abort, b⟩ n = n ∧
    takeCell l ⟨.data, b⟩ n = setAssembly l (.assembling [b]) n ∧
    takeCell l ⟨.fin, b⟩ n = judgeMessage l [b] n := by
  simp only [takeCell, h, and_self]

theorem takeCell_skipping (h : (laneOf l n).assembly = .skipping) (b : Byte) :
    takeCell l ⟨.data, b⟩ n = n ∧ takeCell l ⟨.idle, b⟩ n = setAssembly l .ready n ∧
    takeCell l ⟨.fin, b⟩ n = setAssembly l .ready n ∧ takeCell l ⟨.abort, b⟩ n = setAssembly l .ready n := by
  simp only [takeCell, h, and_self]

variable {bytes : List Byte}

theorem takeCell_ends (h : (laneOf l n).assembly = .assembling bytes) (b : Byte) :
    takeCell l ⟨.idle, b⟩ n = raise .malformed (setAssembly l .ready n) ∧
    takeCell l ⟨.abort, b⟩ n = setAssembly l .ready n := by
  simp only [takeCell, h, and_self]

theorem takeCell_data (h : (laneOf l n).assembly = .assembling bytes) (hlen : bytes.length < 132) (b : Byte) :
    takeCell l ⟨.data, b⟩ n = setAssembly l (.assembling (bytes ++ [b])) n := by
  simp only [takeCell, h, if_pos hlen]

theorem takeCell_full (h : (laneOf l n).assembly = .assembling bytes) (hlen : bytes.length = 132) (b : Byte) :
    takeCell l ⟨.data, b⟩ n = raise .malformed (setAssembly l .skipping n) ∧
    takeCell l ⟨.fin, b⟩ n = raise .malformed (setAssembly l .ready n) := by
  have hfull : ¬ bytes.length < 132 := by omega
  simp only [takeCell, h, if_neg hfull, and_self]

end

/-- Settles O37, by the record's state. -/
theorem cellsActOnTheAssemblyRecord : Obligations.CellsActOnTheAssemblyRecord := by
  unfold Obligations.CellsActOnTheAssemblyRecord
  intro l b n
  refine ⟨fun h => takeCell_ready h b, fun bytes h => ?_, fun h => ?_⟩
  · obtain ⟨hidle, habort⟩ := takeCell_ends h b
    refine ⟨hidle.trans (raise_setAssembly _), habort,
      fun hlen => ⟨takeCell_data h hlen b, takeCell_fin_assembling b h hlen⟩, fun hlen => ?_⟩
    obtain ⟨hdata, hfin⟩ := takeCell_full h hlen b
    exact ⟨hdata.trans (raise_setAssembly _), hfin.trans (raise_setAssembly _)⟩
  · obtain ⟨hdata, hidle, hfin, habort⟩ := takeCell_skipping h b
    refine ⟨hdata, fun mk hmk => ?_⟩
    cases mk with
    | idle => exact hidle
    | data => exact absurd rfl hmk
    | fin => exact hfin
    | abort => exact habort

/-! ### A whole message from its cells -/

/-- DATA cells that fit add their bytes to the record. -/
theorem takeData_assembling (l : LaneId) : ∀ (bytes front : List Byte) (n : Node),
    (laneOf l n).assembly = .assembling front → front.length + bytes.length ≤ 132 →
    bytes.foldl (fun x b => takeCell l ⟨.data, b⟩ x) n = setAssembly l (.assembling (front ++ bytes)) n
  | [], front, n, h, _ => by rw [List.append_nil, setAssembly_self h, List.foldl_nil]
  | b :: bytes, front, n, h, hlen => by
    have hroom : front.length < 132 := by simp only [List.length_cons] at hlen; omega
    rw [List.foldl_cons, takeCell_data h hroom b, takeData_assembling l bytes (front ++ [b])]
    · rw [setAssembly_setAssembly, List.append_assoc, List.singleton_append]
    · rw [laneOf_setAssembly]
    · simp only [List.length_append, List.length_cons, List.length_nil] at hlen ⊢
      omega

/-- The DATA cells of a message's bytes, from a READY record. -/
theorem takeData_ready {l : LaneId} {n : Node} (h : (laneOf l n).assembly = .ready) {b : Byte} {bytes : List Byte}
    (hlen : bytes.length < 132) :
    (b :: bytes).foldl (fun x b => takeCell l ⟨.data, b⟩ x) n = setAssembly l (.assembling (b :: bytes)) n := by
  obtain ⟨-, -, hdata, -⟩ := takeCell_ready h b
  rw [List.foldl_cons, hdata, takeData_assembling l bytes [b], setAssembly_setAssembly, List.singleton_append]
  · rw [laneOf_setAssembly]
  · simp only [List.length_cons, List.length_nil]
    omega

/-- Settles O39: the record holds the body when the END cell brings the check byte. -/
theorem messageAssemblesFromItsCells : Obligations.MessageAssemblesFromItsCells := by
  unfold Obligations.MessageAssemblesFromItsCells
  intro l m n hlen hready hdest hroom
  have hbytes := messageBytes_length m
  rw [messageBytes] at hbytes ⊢
  rw [List.length_append, List.length_singleton] at hbytes
  rw [List.dropLast_concat, List.getLastD_concat]
  have hbody : (messageBody m).foldl (fun x b => takeCell l ⟨.data, b⟩ x) n =
      setAssembly l (.assembling (messageBody m)) n :=
    takeData_ready hready (by simp only [List.length_cons]; omega)
  rw [hbody, takeCell_fin_assembling (front := messageBody m) _ (by rw [laneOf_setAssembly]) (by omega),
    setAssembly_setAssembly, setAssembly_self hready, ← messageBytes, judgeMessage_messageBytes l m n hlen,
    admit_room l m n hdest hroom, enqueue]
  dsimp only
  rw [hready]

/-! ### The take of a lane -/

theorem inService_of_working {s : NodeState} (h : s = .halted ∨ s = .quiet ∨ s = .active) :
    executorRuns s = true ∧ inService s = true := by
  rcases h with rfl | rfl | rfl <;> decide

theorem laneOf_boundary (l : LaneId) (n : Node) (b : List Work) (c : Nat) :
    laneOf l { n with boundary := b, choice := c } = laneOf l n := by
  cases l <;> rfl

section
variable {l : LaneId} {n : Node}

theorem takeLane_stands (h : executorRuns n.control.node = false ∨ (laneOf l n).queue = []) : takeLane l n = n := by
  unfold takeLane
  rcases h with h | h
  · rw [if_neg (by rw [h]; exact Bool.false_ne_true)]
  · rw [h, ite_self]

theorem takeLane_stalled {m : Message} {rest : List Message} (hq : (laneOf l n).queue = m :: rest)
    (h : stalled l m n = true) : takeLane l n = n := by
  unfold takeLane
  rw [hq]
  dsimp only
  rw [if_pos h, ite_self]

theorem takeLane_performs {m : Message} {rest : List Message} (he : executorRuns n.control.node = true)
    (hq : (laneOf l n).queue = m :: rest) (h : stalled l m n = false) :
    takeLane l n = perform l m (withLane l { laneOf l n with queue := rest } n) := by
  unfold takeLane
  rw [if_pos he, popLane, hq]
  dsimp only
  rw [if_neg (by rw [h]; exact Bool.false_ne_true), List.tail_cons]

theorem stalled_read {m : Message} {k : Kind} (hr : isRead k = true) (hk : requestKind l m = some k)
    (hlen : n.replies.length = 4) : stalled l m n = true := by
  simp only [stalled, hk, hr, hlen, Bool.true_and]
  rfl

theorem stalled_false {m : Message} (h : ∀ k : Kind, isRead k = true → requestKind l m = some k →
    n.replies.length < 4) : stalled l m n = false := by
  unfold stalled
  split
  · rename_i k hk
    cases hr : isRead k with
    | false => rfl
    | true => exact decide_eq_false (Nat.not_le.mpr (h k hr hk))
  · rfl

theorem perform_bad {m : Message} (h : requestKind l m = none) : perform l m n = raise .badRequest n := by
  simp only [perform, h]

end

/-- R156: the code of a kind that a byte names. -/
theorem kindOf_eq_some {b : Byte} {k : Kind} (h : kindOf b = some k) : b = kindCode k := by
  unfold kindOf at h
  split at h
  case h_14 => cases h
  all_goals
    rename_i hb
    cases h
    exact BitVec.eq_of_toNat_eq hb

theorem kindCode_range (k : Kind) :
    (kindLane k = .setting ∧ 0x10 ≤ (kindCode k).toNat ∧ (kindCode k).toNat ≤ 0x13) ∨
    (kindLane k = .live ∧ 0x20 ≤ (kindCode k).toNat ∧ (kindCode k).toNat ≤ 0x28) := by
  cases k <;> decide

/-- R156: a code beyond a lane's kinds is no request of the lane. -/
theorem requestKind_beyond {l : LaneId} {m : Message}
    (h : l = .setting ∧ (m.kind.toNat < 0x10 ∨ 0x13 < m.kind.toNat) ∨
      l = .live ∧ (m.kind.toNat < 0x20 ∨ 0x28 < m.kind.toNat)) : requestKind l m = none := by
  cases hk : requestKind l m with
  | none => rfl
  | some k =>
    have hlane := kindLane_of_requestKind hk
    have hkind : m.kind = kindCode k := by
      unfold requestKind at hk
      split at hk
      · rename_i k' hk'
        split at hk
        · cases hk
          exact kindOf_eq_some hk'
        · cases hk
      · cases hk
    subst hlane
    rw [hkind] at h
    rcases kindCode_range k with ⟨hl, hlow, hhigh⟩ | ⟨hl, hlow, hhigh⟩ <;> rw [hl] at h <;> simp at h <;> omega

/-- A lane's take alone is left of a boundary. -/
theorem completeBoundary_take {n : Node} {l : LaneId} {w : Work}
    (hw : l = .live ∧ w = .liveTake ∨ l = .setting ∧ w = .settingTake) (hb : n.boundary = [w])
    (hs : inService n.control.node = true) :
    completeBoundary n = takeLane l { n with boundary := [], choice := n.choice + 1 } := by
  rw [completeBoundary_work hs hb]
  rcases hw with ⟨rfl, rfl⟩ | ⟨rfl, rfl⟩ <;> rfl

/-- Settles O41, by the node state and by the request check of the head. -/
theorem laneTakesItsHead : Obligations.LaneTakesItsHead := by
  unfold Obligations.LaneTakesItsHead
  intro n q l w hw hb
  refine ⟨fun h => ?_, fun m rest hst hq => ?_⟩
  · refine exec_eq_of_node rfl ?_
    cases hs : inService n.control.node with
    | true =>
      rw [completeBoundary_take hw hb hs]
      refine takeLane_stands ?_
      rw [laneOf_boundary]
      rcases h with h | h | h
      · exact .inl (by rw [h]; rfl)
      · exact .inl (by rw [h]; rfl)
      · exact .inr h
    | false =>
      rw [completeBoundary_single n w hb, takeWork, if_neg (by rw [hs]; exact Bool.false_ne_true), hb]
      simp
  · obtain ⟨he, hs⟩ := inService_of_working hst
    have htake := completeBoundary_take hw hb hs
    have hq' : (laneOf l { n with boundary := [], choice := n.choice + 1 }).queue = m :: rest := by
      rw [laneOf_boundary, hq]
    have hperforms := takeLane_performs (n := { n with boundary := [], choice := n.choice + 1 }) he hq'
    refine ⟨fun hkind => exec_eq_of_node rfl (htake.trans ?_),
      fun k hr hk hlen => exec_eq_of_node rfl (htake.trans (takeLane_stalled hq' (stalled_read hr hk hlen))),
      fun h => exec_eq_of_node rfl (htake.trans ?_)⟩
    · have hbad := requestKind_beyond hkind
      rw [hperforms (stalled_false fun k _ hk => by rw [hbad] at hk; cases hk), perform_bad hbad]
      cases l <;> rfl
    · rw [hperforms (stalled_false h), laneOf_boundary]

/-! ### A message that waits, and a bad request -/

theorem deliver_elsewhere {n : Node} (k : Kind) {h : MsgHeader} {payload : List Byte} (hp : payload.length ≤ 127)
    (hnode : h.dest ≠ addressNibble n) (hall : h.dest ≠ 0xF) : deliver h k payload n = n := by
  unfold deliver
  rw [judgeMessage_messageBytes _ (commandMessage h k payload) n hp, admitMessage_elsewhere hnode hall]
  dsimp only
  split
  · rw [if_neg]
    cases (laneOf (kindLane k) n).queue <;> simp
  · rfl

/-- Settles O40, by the destination and the room of the lane's queue. -/
theorem messagesWaitInTheirQueue : Obligations.MessagesWaitInTheirQueue := by
  unfold Obligations.MessagesWaitInTheirQueue
  intro n q k h payload hp
  rw [exec_messageCommand]
  refine ⟨fun hs => by rw [deliver_outOfService h k payload n hs],
    fun hnode hall => by rw [deliver_elsewhere k hp hnode hall], fun hs hdest hwait => ?_⟩
  rw [deliver_waits h k payload n hp hs hwait]
  refine ⟨fun hroom => ?_, fun hfull => ?_⟩
  · rw [admit_room _ _ n hdest hroom]
    rfl
  · rw [admitMessage_full hdest hfull, raise_overrunEvent]

/-- R155, R156: a message that arrives at its boundary and is no request is discarded there. -/
theorem deliver_bad {h : MsgHeader} {k : Kind} {payload : List Byte} {n : Node}
    (hp : payload.length ≤ 127) (ha : arrivesAtBoundary k h n)
    (hr : requestKind (kindLane k) (commandMessage h k payload) = none)
    (hf : headFits (kindLane k) (enqueue (kindLane k) (commandMessage h k payload) n) = true) :
    deliver h k payload n = raise .badRequest (lanesTaken (kindLane k) n) := by
  obtain ⟨hd, hq, hn⟩ := ha
  have he := executorRuns_of_laneDue hd
  have hroom : (laneOf (kindLane k) n).queue.length < laneCapacity (kindLane k) := by
    rw [hq]
    cases kindLane k <;> simp [laneCapacity]
  have hj : judgeMessage (kindLane k) (messageBytes (commandMessage h k payload)) n =
      enqueue (kindLane k) (commandMessage h k payload) n := by
    rw [judgeMessage_messageBytes _ _ _ hp, admit_room _ _ _ hn hroom]
  rw [deliver, if_pos (inService_of_executorRuns he)]
  simp only [hj]
  rw [if_pos (by simp [hd, hq, hf]), takeLaneNow_enqueue _ _ _ he hq fun x _ => stalled_false fun k' _ hk => ?_,
    perform_bad hr]
  rw [hr] at hk
  cases hk

theorem raise_badRequest (l : LaneId) (n : Node) :
    raise .badRequest (lanesTaken l n) = { lanesTaken l n with events := n.events ||| 0x10#13 } := by
  cases l <;> rfl

/-- Settles O42: such a message fails the request check. -/
theorem badRequestsAreDiscarded : Obligations.BadRequestsAreDiscarded := by
  unfold Obligations.BadRequestsAreDiscarded
  intro n q k h payload hp ha hbad
  have hfails : ¬(lengthFits k payload.length = true ∧ ¬(isRead k = true ∧ h.dest = 0xF)) := by
    rintro ⟨hlen, hread⟩
    rcases hbad with ⟨rfl, hlt⟩ | ⟨hk, hne⟩ | ⟨hdest, hk⟩
    · simp only [lengthFits, decide_eq_true_eq] at hlen
      omega
    · cases k with
      | tableWrite => exact hk rfl
      | _ => exact hne (beq_iff_eq.mp hlen)
    · rcases hk with rfl | rfl | rfl <;> exact hread ⟨rfl, hdest⟩
  have hnone : requestKind (kindLane k) (commandMessage h k payload) = none := by
    rw [requestKind_command, if_neg hfails]
  have hlength : k = .rampControl → lengthFits k payload.length = false := by
    rintro rfl
    rw [← Bool.not_eq_true]
    exact fun hlen => hfails ⟨hlen, fun hread => Bool.false_ne_true hread.1⟩
  refine exec_eq_of_node (exec_messageCommand k h payload n q) ?_
  rw [deliver_bad hp ha hnone (headFits_command h k payload n ha.2.1 hlength), raise_badRequest]

end Sys2Proof.Machine
end

section
/-! PROOFS. The messages of the live lane that set live state, the speed tracker and the presence detectors (R13, R31 to
R34, R50 to R52, R55, R64, R65). -/

namespace Sys2Proof.Machine

/-! ### A message that arrives at its boundary -/

section
variable {k : Kind} {h : MsgHeader} {payload : List Byte} {n m : Node}

/-- R156: a request that arrives at its boundary and fits there is carried out. -/
theorem exec_carriesOut (q : List Instr) (ha : arrivesAtBoundary k h n) (hmax : payload.length ≤ 127)
    (hl : lengthFits k payload.length = true) (hr : isRead k = true → h.dest ≠ 0xF ∧ n.replies.length < 4)
    (hf : headFits (kindLane k) (enqueue (kindLane k) (commandMessage h k payload) n) = true)
    (hm : carryOut k (commandMessage h k payload) (lanesTaken (kindLane k) n) = m) :
    exec (messageCommand k h payload) ⟨n, q⟩ = .next ⟨m, q⟩ := by
  refine exec_eq_of_node (exec_messageCommand k h payload n q) ?_
  rw [deliver_arrives h k payload n hmax ha (fun hk => (hr hk).2) hf, perform_command,
    if_pos ⟨hl, fun hk => (hr hk.1).1 hk.2⟩, hm]

/-- A request with no reply that waits for no ramp step. -/
theorem exec_writes (q : List Instr) (ha : arrivesAtBoundary k h n) (hmax : payload.length ≤ 127)
    (hl : lengthFits k payload.length = true) (hr : isRead k = false) (hk : k ≠ .rampControl)
    (hm : carryOut k (commandMessage h k payload) (lanesTaken (kindLane k) n) = m) :
    exec (messageCommand k h payload) ⟨n, q⟩ = .next ⟨m, q⟩ :=
  exec_carriesOut q ha hmax hl (fun hk => absurd (hr.symm.trans hk) Bool.false_ne_true)
    (headFits_command h k payload n ha.2.1 fun he => absurd he hk) hm

end

theorem refuse_lanesTaken (l : LaneId) (n : Node) :
    refuse (lanesTaken l n) = { lanesTaken l n with events := n.events ||| 0x20#13 } := by
  cases l <;> rfl

theorem indexOf_of_toNat {k : Nat} {b : Byte} {i : Fin k} (h : b.toNat = i.val) : indexOf k b = some i := by
  have hlt : b.toNat < k := h ▸ i.isLt
  rw [indexOf, dif_pos hlt]
  exact congrArg some (Fin.ext h)

/-! ### LEVEL, PROGRAM_TRIM, BALANCE_FADE and MUTE -/

section
variable {n : Node}

theorem carryLevel_index {mask form hi lo : Byte} (h : form = 0) : carryLevel [mask, form, hi, lo] n =
    { n with live := { n.live with
      zones := .ofFn fun z =>
      if mask.toNat.testBit z.val then
        { n.live.zones[z] with
          volumeIndex := min 63 (256 * hi.toNat + lo.toNat)
          volumeCode := n.tables.volume.toList.getD (min 63 (256 * hi.toNat + lo.toNat)) 0 }
      else n.live.zones[z] } } := by
  subst h
  simp only [carryLevel, if_true, unsignedOf_two, modifyZones, maskBit]

theorem carryLevel_code {mask form hi lo : Byte} (h : form = 1) : carryLevel [mask, form, hi, lo] n =
    { n with live := { n.live with
      zones := .ofFn fun z =>
      if mask.toNat.testBit z.val then
        { n.live.zones[z] with volumeIndex := 255, volumeCode := max (-960) (min 0 (hi ++ lo).toInt) }
      else n.live.zones[z] } } := by
  subst h
  have hform : (1 : Byte) ≠ 0 := by decide
  simp only [carryLevel, if_neg hform, if_true, signedOf_two, modifyZones, maskBit, clamp]

theorem carryLevel_refuses {mask form hi lo : Byte} (h0 : form ≠ 0) (h1 : form ≠ 1) :
    carryLevel [mask, form, hi, lo] n = refuse n := by
  simp only [carryLevel, if_neg h0, if_neg h1]

theorem carryProgramTrim_sets {zone program hi lo : Byte} {z p : Fin 4} (hz : zone.toNat = z.val)
    (hp : program.toNat = p.val) : carryProgramTrim [zone, program, hi, lo] n =
    { n with live := { n.live with
      zones := .ofFn fun y =>
      if y = z then
        { n.live.zones[y] with
          trims := .ofFn fun r =>
            if r = p then max (-480) (min 0 (hi ++ lo).toInt) else n.live.zones[y].trims[r] }
      else n.live.zones[y] } } := by
  simp only [carryProgramTrim, indexOf_of_toNat hz, indexOf_of_toNat hp, modifyZone, signedOf_two, clamp]
  rfl

theorem carryProgramTrim_refuses {zone program hi lo : Byte} (h : 3 < zone.toNat ∨ 3 < program.toNat) :
    carryProgramTrim [zone, program, hi, lo] n = refuse n := by
  rcases h with h | h
  · simp only [carryProgramTrim, indexOf_eq_none 4 zone h]
  · simp only [carryProgramTrim, indexOf_eq_none 4 program h]
    split
    · contradiction
    · rfl

theorem carryBalanceFade_sets {zone balance fade : Byte} {z : Fin 4} (hz : zone.toNat = z.val) :
    carryBalanceFade [zone, balance, fade] n = { n with live := { n.live with
      zones := .ofFn fun y =>
      if y = z then
        { n.live.zones[y] with
          balance := max (-32) (min 32 balance.toInt), fade := max (-32) (min 32 fade.toInt) }
      else n.live.zones[y] } } := by
  simp only [carryBalanceFade, indexOf_of_toNat hz, modifyZone, signedOf_one, clamp]
  rfl

theorem carryBalanceFade_refuses {zone balance fade : Byte} (h : 3 < zone.toNat) :
    carryBalanceFade [zone, balance, fade] n = refuse n := by
  simp only [carryBalanceFade, indexOf_eq_none 4 zone h]

theorem flagOf_setting {b : Byte} (h : b = 0 ∨ b = 1) : flagOf b = some (b == 1) := by
  rcases h with rfl | rfl <;> decide

theorem flagOf_none {b : Byte} (h : 1 < b.toNat) : flagOf b = none := by
  have h0 : b ≠ 0 := by rintro rfl; simp at h
  have h1 : b ≠ 1 := by rintro rfl; simp at h
  rw [flagOf, if_neg h0, if_neg h1]

theorem carryMute_zones {form m2 m1 m0 setting : Byte} {mask : Nat}
    (hmask : mask = 65536 * m2.toNat + 256 * m1.toNat + m0.toNat) (hf : form = 0) (hs : setting = 0 ∨ setting = 1) :
    carryMute [form, m2, m1, m0, setting] n = { n with live := { n.live with
      zones := .ofFn fun z =>
      if mask.testBit z.val then { n.live.zones[z] with mute := setting == 1 } else n.live.zones[z] } } := by
  subst hf
  simp only [carryMute, flagOf_setting hs, if_true, unsignedOf_three, ← hmask, modifyZones, maskBit]

theorem carryMute_speakers {form m2 m1 m0 setting : Byte} {mask : Nat}
    (hmask : mask = 65536 * m2.toNat + 256 * m1.toNat + m0.toNat) (hf : form = 1) (hs : setting = 0 ∨ setting = 1) :
    carryMute [form, m2, m1, m0, setting] n = { n with live := { n.live with
      mutes := .ofFn fun k =>
      if mask.testBit k.val then setting == 1 else n.live.mutes[k] } } := by
  subst hf
  have hform : (1 : Byte) ≠ 0 := by decide
  simp only [carryMute, flagOf_setting hs, if_neg hform, if_true, unsignedOf_three, ← hmask, muteSpeakers, maskBit]

theorem carryMute_refuses {form m2 m1 m0 setting : Byte} (h : 1 < form.toNat ∨ 1 < setting.toNat) :
    carryMute [form, m2, m1, m0, setting] n = refuse n := by
  rcases h with h | h
  · have h0 : form ≠ 0 := by rintro rfl; simp at h
    have h1 : form ≠ 1 := by rintro rfl; simp at h
    simp only [carryMute, if_neg h0, if_neg h1]
    split <;> rfl
  · simp only [carryMute, flagOf_none h]

end

/-- Settles O43, message by message. -/
theorem levelTrimBalanceAndMuteSetTheirState : Obligations.LevelTrimBalanceAndMuteSetTheirState := by
  unfold Obligations.LevelTrimBalanceAndMuteSetTheirState
  refine ⟨fun n q h mask form hi lo ha => ?_, fun n q h z => ⟨fun ha p zone program hi lo => ?_,
    fun ha zone balance fade => ?_⟩, fun n q h form m2 m1 m0 setting mask ha hmask => ?_⟩
  · have hexec {m : Node} := exec_writes (k := .level) (payload := [mask, form, hi, lo]) (m := m) q ha (by simp) rfl
      rfl (by decide)
    exact ⟨fun hf => hexec (carryLevel_index hf), fun hf => hexec (carryLevel_code hf),
      fun h0 h1 => hexec ((carryLevel_refuses h0 h1).trans (refuse_lanesTaken .live n))⟩
  · have hexec {m : Node} := exec_writes (k := .programTrim) (payload := [zone, program, hi, lo]) (m := m) q ha
      (by simp) rfl rfl (by decide)
    exact ⟨fun hz hp => hexec (carryProgramTrim_sets hz hp),
      fun hbad => hexec ((carryProgramTrim_refuses hbad).trans (refuse_lanesTaken .live n))⟩
  · have hexec {m : Node} := exec_writes (k := .balanceFade) (payload := [zone, balance, fade]) (m := m) q ha
      (by simp) rfl rfl (by decide)
    exact ⟨fun hz => hexec (carryBalanceFade_sets hz),
      fun hbad => hexec ((carryBalanceFade_refuses hbad).trans (refuse_lanesTaken .live n))⟩
  · have hexec {m : Node} := exec_writes (k := .mute) (payload := [form, m2, m1, m0, setting]) (m := m) q ha
      (by simp) rfl rfl (by decide)
    have hspeakers (hf : form = 1) (hs : setting = 0 ∨ setting = 1) :=
      carryMute_speakers (n := lanesTaken .live n) hmask hf hs
    rw [lanesTaken_live] at hspeakers
    exact ⟨fun hf hs => hexec (carryMute_zones hmask hf hs), 
      fun hf hs => hexec (hspeakers hf hs),
      fun hbad => hexec ((carryMute_refuses hbad).trans (refuse_lanesTaken .live n))⟩

/-! ### CABIN and PRESENCE -/

theorem presenceModeOf_eq {mode : Byte} {m : PresenceMode}
    (h : (mode = 0 ∧ m = .off) ∨ (mode = 1 ∧ m = .on) ∨ (mode = 2 ∧ m = .auto)) : presenceModeOf mode = some m := by
  rcases h with ⟨rfl, rfl⟩ | ⟨rfl, rfl⟩ | ⟨rfl, rfl⟩ <;> decide

theorem presenceModeOf_none {mode : Byte} (h : 2 < mode.toNat) : presenceModeOf mode = none := by
  have h0 : mode ≠ 0 := by rintro rfl; simp at h
  have h1 : mode ≠ 1 := by rintro rfl; simp at h
  have h2 : mode ≠ 2 := by rintro rfl; simp at h
  rw [presenceModeOf, if_neg h0, if_neg h1, if_neg h2]

theorem carryPresence_sets {n : Node} {mask mode : Byte} {m : PresenceMode} (h : presenceModeOf mode = some m) :
    carryPresence [mask, mode] n = { n with
      detectors := .ofFn fun p =>
      if mask.toNat.testBit p.val ∧ n.detectors[p].mode ≠ m then
        { mode := m, present := m == .on, quiet := 0, peak := n.detectors[p].peak }
      else n.detectors[p] } := by
  have hvec : Vector.ofFn (fun p : Fin 4 =>
        if maskBit mask.toNat p.val then setPresenceMode m n.detectors[p] else n.detectors[p]) = .ofFn fun p =>
      if mask.toNat.testBit p.val ∧ n.detectors[p].mode ≠ m then
        { mode := m, present := m == .on, quiet := 0, peak := n.detectors[p].peak }
      else n.detectors[p] := by
    refine vector_eq fun p => ?_
    rw [ofFn_at, ofFn_at, maskBit, setPresenceMode]
    by_cases hb : mask.toNat.testBit p.val = true
    · by_cases hm : n.detectors[p].mode = m
      · rw [if_pos hb, if_pos hm, if_neg fun hc => hc.2 hm]
      · rw [if_pos hb, if_neg hm, if_pos ⟨hb, hm⟩]
    · rw [if_neg hb, if_neg fun hc => hb hc.1]
  simp only [carryPresence, h]
  rw [hvec]

theorem carryPresence_refuses {n : Node} {mask mode : Byte} (h : 2 < mode.toNat) :
    carryPresence [mask, mode] n = refuse n := by
  simp only [carryPresence, presenceModeOf_none h]

/-- Settles O45. -/
theorem cabinAndPresenceSetTheirState : Obligations.CabinAndPresenceSetTheirState := by
  unfold Obligations.CabinAndPresenceSetTheirState
  intro n q h
  refine ⟨fun ha flags => ?_, fun ha mask mode => ?_⟩
  · exact exec_writes (k := .cabin) (payload := [flags]) q ha (by simp) rfl rfl (by decide) rfl
  · have hexec {m : Node} := exec_writes (k := .presence) (payload := [mask, mode]) (m := m) q ha (by simp) rfl
      rfl (by decide)
    exact ⟨fun m hm => hexec (carryPresence_sets (presenceModeOf_eq hm)),
      fun hbad => hexec ((carryPresence_refuses hbad).trans (refuse_lanesTaken .live n))⟩

/-! ### SPEED -/

/-- R64: the thresholds of the bands above 0. -/
def IsThreshold (s : SpeedSettings) (theta : Nat → Nat) : Prop :=
  theta 1 = s.theta1 ∧ theta 2 = s.theta2 ∧ theta 3 = s.theta3

section
variable {s : SpeedSettings} {theta : Nat → Nat} {v : Nat}

theorem bandThreshold_eq (h : IsThreshold s theta) {i : Nat} (hlow : 1 ≤ i) (hhigh : i ≤ 3) :
    bandThreshold s i = theta i := by
  obtain ⟨h1, h2, h3⟩ := h
  obtain rfl | rfl | rfl : i = 1 ∨ i = 2 ∨ i = 3 := by omega
  · exact h1.symm
  · exact h2.symm
  · exact h3.symm

/-- R64 Rise: the highest band whose threshold is reached. -/
theorem reachedBand_eq (h : IsThreshold s theta) {b : Nat} (hlow : 1 ≤ b) (hhigh : b ≤ 3) (hb : theta b ≤ v)
    (habove : ∀ i, b < i → i ≤ 3 → v < theta i) : reachedBand s v = b := by
  obtain ⟨h1, h2, h3⟩ := h
  have hthree := habove 3
  have htwo := habove 2
  rw [reachedBand, ← h1, ← h2, ← h3]
  obtain rfl | rfl | rfl : b = 1 ∨ b = 2 ∨ b = 3 := by omega
  · rw [if_neg (by omega), if_neg (by omega), if_pos hb]
  · rw [if_neg (by omega), if_pos hb]
  · rw [if_pos hb]

/-- R64: no band above is reached. -/
theorem reachedBand_le (h : IsThreshold s theta) {b : Nat} (habove : ∀ i, b < i → i ≤ 3 → v < theta i) :
    reachedBand s v ≤ b := by
  obtain ⟨h1, h2, h3⟩ := h
  have hthree := habove 3
  have htwo := habove 2
  have hone := habove 1
  rw [reachedBand, ← h1, ← h2, ← h3]
  repeat' split
  all_goals omega

/-- R64 Fall: the band falls to the first that the speed holds. -/
theorem fallBand_eq (h : IsThreshold s theta) {b : Nat} (hb : b = 0 ∨ (theta b : Int) - s.bandHysteresis ≤ v) :
    ∀ a : Nat, a ≤ 3 → b ≤ a → (∀ i, b < i → i ≤ a → (v : Int) < (theta i : Int) - s.bandHysteresis) →
      fallBand s v a = b
  | 0, _, hba, _ => (Nat.le_zero.mp hba).symm
  | a + 1, hmax, hba, hfall => by
    rw [fallBand, bandThreshold_eq h (by omega) hmax]
    by_cases heq : b = a + 1
    · subst heq
      rw [if_neg (by omega)]
    · rw [if_pos (hfall (a + 1) (by omega) le_rfl)]
      exact fallBand_eq h hb a (by omega) (by omega) fun i hi hia => hfall i hi (by omega)

/-- R64: the band after an evaluation. -/
theorem nextBand_eq (h : IsThreshold s theta) {a b : Fin 4}
    (hb : (a < b ∧ theta b.val ≤ v ∧ ∀ i, b.val < i → i ≤ 3 → v < theta i) ∨
      ((∀ i, a.val < i → i ≤ 3 → v < theta i) ∧ b ≤ a ∧
        (b = 0 ∨ (theta b.val : Int) - s.bandHysteresis ≤ v) ∧
        ∀ i, b.val < i → i ≤ a.val → (v : Int) < (theta i : Int) - s.bandHysteresis)) :
    nextBand s v a.val = b.val := by
  rcases hb with ⟨hab, hreach, habove⟩ | ⟨habove, hba, hhold, hfall⟩
  · rw [nextBand, reachedBand_eq h (b := b.val) (by omega) (by omega) hreach habove,
      if_pos (Fin.lt_def.mp hab)]
  · have hle := reachedBand_le h habove
    rw [nextBand, if_neg (by omega)]
    exact fallBand_eq h (hhold.imp_left fun h0 => by rw [h0]; rfl) a.val (by omega) hba hfall

end

/-- R51: the smoothed speed after a valid report. -/
theorem nextSpeed_eq {w raw s : Nat} {t : Tracker} (hfresh : t.state = .none ∨ t.state = .failed → s = raw)
    (hmoves : t.state = .live ∨ t.state = .stale →
      (s : Int) = max 0 (t.speed + (((raw : Int) - t.speed) * w).tdiv 16)) : nextSpeed w t raw = s := by
  unfold nextSpeed trunc
  cases hst : t.state with
  | none => exact (hfresh (.inl hst)).symm
  | failed => exact (hfresh (.inr hst)).symm
  | live =>
    have := hmoves (.inl hst)
    dsimp only
    omega
  | stale =>
    have := hmoves (.inr hst)
    dsimp only
    omega

/-- R82: requests of the entries of a list that count, in the order of the list. -/
theorem requestAll_filter (c : Fin 24 → Bool) : ∀ (ks : List (Fin 24)) (n : Node),
    requestAll (ks.filter c) n = ks.foldl (fun x k => if c k then request k x else x) n
  | [], _ => rfl
  | k :: ks, n => by
    rw [List.foldl_cons]
    by_cases hk : c k = true
    · rw [List.filter_cons_of_pos hk, requestAll, if_pos hk, requestAll_filter]
    · rw [List.filter_cons_of_neg hk, if_neg hk, requestAll_filter]

theorem ofNat_band (b : Fin 4) : Fin.ofNat 4 b.val = b := Fin.ext (Nat.mod_eq_of_lt b.isLt)

section
variable {n : Node} {b : Fin 4}

theorem evaluateBand_stays (h : nextBand n.tables.settings n.tracker.speed n.tracker.band.val = b.val)
    (hb : b = n.tracker.band) : evaluateBand n = n := by
  rw [evaluateBand, h, ofNat_band]
  exact if_pos hb

/-- R64, R65: a band that changes. -/
theorem evaluateBand_moves (h : nextBand n.tables.settings n.tracker.speed n.tracker.band.val = b.val)
    (hb : b ≠ n.tracker.band) : evaluateBand n =
    (List.finRange 24).foldl
      (fun x k => if n.tables.speakers[k].enabled ∧ n.tables.speakers[k].bandLinked then request k x else x)
      { n with tracker := { n.tracker with band := b }, events := n.events ||| 0x100#13 } := by
  rw [evaluateBand, h, ofNat_band]
  dsimp only
  rw [if_neg hb, bandSpeakers, requestAll_filter]
  simp only [Bool.and_eq_true]
  rfl

end

section
variable {n : Node} {hi lo quality : Byte} {raw : Nat}

theorem carrySpeed_valid (hq : quality = 1) (hraw : raw = min 1200 (256 * hi.toNat + lo.toNat)) :
    carrySpeed [hi, lo, quality] n = validReport raw n := by
  subst hq
  simp only [carrySpeed, if_true, unsignedOf_two, ← hraw]

theorem carrySpeed_invalid (hq : quality = 0) (hraw : raw = min 1200 (256 * hi.toNat + lo.toNat)) :
    carrySpeed [hi, lo, quality] n = { n with
      events := n.events ||| 0x40#13
      tracker := { n.tracker with
        raw := raw
        state := if n.tracker.state = .live then .stale else n.tracker.state
        fail := if n.tracker.state = .live then 0 else n.tracker.fail } } := by
  subst hq
  have hquality : (0 : Byte) ≠ 1 := by decide
  simp only [carrySpeed, if_neg hquality, if_true, unsignedOf_two, ← hraw, invalidReport]
  by_cases hl : n.tracker.state = .live
  · simp only [if_pos hl]
    rfl
  · simp only [if_neg hl]
    rfl

theorem carrySpeed_refuses (hq : 1 < quality.toNat) : carrySpeed [hi, lo, quality] n = refuse n := by
  have h0 : quality ≠ 0 := by rintro rfl; simp at hq
  have h1 : quality ≠ 1 := by rintro rfl; simp at hq
  simp only [carrySpeed, if_neg h0, if_neg h1]

end

/-- Settles O44, by the quality of the report and by the band that its evaluation leaves. -/
theorem speedReportsMoveTheTracker : Obligations.SpeedReportsMoveTheTracker := by
  unfold Obligations.SpeedReportsMoveTheTracker
  intro n q h hi lo quality raw ha hraw
  have hexec {m : Node} := exec_writes (k := .speed) (payload := [hi, lo, quality]) (m := m) q ha (by simp) rfl
    rfl (by decide)
  refine ⟨fun hq s b theta t h1 h2 h3 hfresh hmoves hband ht => ?_, fun hq => hexec (carrySpeed_invalid hq hraw),
    fun hq => hexec ((carrySpeed_refuses hq).trans (refuse_lanesTaken .live n))⟩
  have hspeed := nextSpeed_eq (w := n.tables.settings.weight) hfresh hmoves
  have hnext := nextBand_eq ⟨h1, h2, h3⟩ hband
  have hreport : validReport raw (lanesTaken .live n) = evaluateBand { lanesTaken .live n with
      tracker := { n.tracker with state := .live, speed := s, raw := raw, stale := 0, fail := 0 } } := by
    rw [← hspeed]
    rfl
  subst ht
  refine ⟨fun hb => hexec ((carrySpeed_valid hq hraw).trans (hreport.trans ?_)),
    fun hb => hexec ((carrySpeed_valid hq hraw).trans (hreport.trans ?_))⟩
  · refine (evaluateBand_stays (b := b) ?_ ?_).trans ?_
    · exact hnext
    · exact hb
    · rw [hb]
  · exact evaluateBand_moves hnext hb

end Sys2Proof.Machine
end

section
/-! PROOFS. RAMP_CONTROL: what it sets, when it waits, and the one boundary at which its units enter their segments
(R105). -/

namespace Sys2Proof.Machine

/-! ### What RAMP_CONTROL sets -/

theorem rampModeOf_eq {mode : Byte} {m : RampMode}
    (h : (mode = 0 ∧ m = .hold) ∨ (mode = 1 ∧ m = .step) ∨ (mode = 2 ∧ m = .run) ∨ (mode = 3 ∧ m = .once)) :
    rampModeOf mode = some m := by
  rcases h with ⟨rfl, rfl⟩ | ⟨rfl, rfl⟩ | ⟨rfl, rfl⟩ | ⟨rfl, rfl⟩ <;> decide

theorem rampModeOf_none {mode : Byte} (h : 3 < mode.toNat) : rampModeOf mode = none := by
  have h0 : mode ≠ 0 := by rintro rfl; simp at h
  have h1 : mode ≠ 1 := by rintro rfl; simp at h
  have h2 : mode ≠ 2 := by rintro rfl; simp at h
  have h3 : mode ≠ 3 := by rintro rfl; simp at h
  rw [rampModeOf, if_neg h0, if_neg h1, if_neg h2, if_neg h3]

theorem optIndexOf_index {k : Nat} {b : Byte} (h : b.toNat < k) : optIndexOf k b = some (some ⟨b.toNat, h⟩) := dif_pos h

theorem optIndexOf_absent {b : Byte} (h : b = 0xFF) : optIndexOf 17 b = some none := by
  subst h
  rfl

theorem optIndexOf_none {b : Byte} (h : 16 < b.toNat) (hb : b ≠ 0xFF) : optIndexOf 17 b = none := by
  rw [optIndexOf, dif_neg (by omega), if_neg hb]

theorem carryRampControl_sets {n : Node} {mask mode index : Byte} {m : RampMode} {i : Option (Fin 17)}
    (hm : rampModeOf mode = some m) (hi : optIndexOf 17 index = some i) (hmask : mask.toNat < 64) :
    carryRampControl [mask, mode, index] n = { n with
      ramps := .ofFn fun u =>
        if mask.toNat.testBit u.val then controlUnit m i n.tables.ramps[u] n.ramps[u] else n.ramps[u] } := by
  simp only [carryRampControl, hm, hi, if_pos hmask, maskBit]
  rfl

theorem carryRampControl_refuses {n : Node} {mask mode index : Byte}
    (h : 3 < mode.toNat ∨ 63 < mask.toNat ∨ (16 < index.toNat ∧ index ≠ 0xFF)) :
    carryRampControl [mask, mode, index] n = refuse n := by
  rcases h with h | h | ⟨h, hne⟩
  · simp only [carryRampControl, rampModeOf_none h]
  · have hmask : ¬ mask.toNat < 64 := by omega
    simp only [carryRampControl, if_neg hmask]
    split <;> rfl
  · simp only [carryRampControl, optIndexOf_none h hne]
    split
    · contradiction
    · rfl

section
variable {m : RampMode} {l : RampList} {r : RampUnit} {index : Byte}

/-- R105: RUN starts from index 0. -/
theorem startsFromZero_iff {i : Option (Fin 17)} (hi : optIndexOf 17 index = some i) :
    startsFromZero m i r = true ↔
      m = .run ∧ (index = 0 ∨ index = 0xFF ∧ r.index = 0 ∧ r.segment = none) := by
  have hval : index = optCode i := (optIndexOf_eq_some (by decide) index i).mp hi
  cases i with
  | none =>
    have hff : index = 0xFF := hval
    subst hff
    simp [startsFromZero]
  | some k =>
    have hne : index ≠ 0xFF := by
      rintro rfl
      cases hi
    have hzero : index = 0 ↔ k.val = 0 := by
      rw [hval, optCode, indexCode, ← BitVec.toNat_inj]
      simp
      omega
    simp only [startsFromZero, Bool.and_eq_true, beq_iff_eq, ← hzero]
    tauto

/-- R105: the index that RAMP_CONTROL gives. -/
theorem controlUnit_index {i : Option (Fin 17)} (hi : optIndexOf 17 index = some i) :
    (index = 0xFF → (controlUnit m i l r).index = r.index ∧ (controlUnit m i l r).segment = r.segment) ∧
    (index ≠ 0xFF → (controlUnit m i l r).index = index.toNat ∧ (controlUnit m i l r).segment = none) := by
  have hval : index = optCode i := (optIndexOf_eq_some (by decide) index i).mp hi
  cases i with
  | none => exact ⟨fun _ => ⟨rfl, rfl⟩, fun h => absurd hval h⟩
  | some k =>
    refine ⟨fun h => ?_, fun _ => ⟨?_, rfl⟩⟩
    · rw [h] at hi
      cases hi
    · rw [hval, optCode, indexCode, BitVec.toNat_ofNat, Nat.mod_eq_of_lt (by omega)]
      rfl

/-- R105: the loops that RAMP_CONTROL leaves. -/
theorem controlUnit_loops {i : Option (Fin 17)} (hi : optIndexOf 17 index = some i) :
    (m = .run ∧ (index = 0 ∨ index = 0xFF ∧ r.index = 0 ∧ r.segment = none) →
      (controlUnit m i l r).loops = if l.loopCount = 0xFF then .endless else .count l.loopCount.toNat) ∧
    (m ≠ .run ∨ index ≠ 0 ∧ (index ≠ 0xFF ∨ r.index ≠ 0 ∨ r.segment ≠ none) →
      (controlUnit m i l r).loops = r.loops) := by
  refine ⟨fun h => if_pos ((startsFromZero_iff hi).mpr h), fun h => if_neg ?_⟩
  rw [startsFromZero_iff hi]
  tauto

end

/-! ### When it is carried out at its boundary -/

section
variable {n : Node} {h : MsgHeader} {mask mode index : Byte}

theorem requestKind_rampControl :
    requestKind .live (commandMessage h .rampControl [mask, mode, index]) = some .rampControl :=
  (requestKind_command h .rampControl [mask, mode, index]).trans (if_pos ⟨rfl, fun hr => Bool.false_ne_true hr.1⟩)

/-- R105: it fits where it splits the steps of no units. -/
theorem headFits_rampControl (hq : n.liveLane.queue = []) :
    headFits .live (enqueue .live (commandMessage h .rampControl [mask, mode, index]) n) =
      !splitsUnits mask.toNat n.boundary := by
  have hqueue : (enqueue .live (commandMessage h .rampControl [mask, mode, index]) n).liveLane.queue =
      [commandMessage h .rampControl [mask, mode, index]] := by
    simp [enqueue, withLane, laneOf, hq]
  simp only [headFits, rampControlSplit, hqueue, requestKind_rampControl]
  rfl

theorem exec_rampControl (q : List Instr) (ha : arrivesAtBoundary .rampControl h n)
    (hfits : ∀ u v : Fin 6, mask.toNat.testBit u.val = true → mask.toNat.testBit v.val = true →
      (.ramp u ∈ n.boundary ↔ .ramp v ∈ n.boundary)) :
    exec (.rampControl h [mask, mode, index]) ⟨n, q⟩ =
      .next ⟨carryRampControl [mask, mode, index] (lanesTaken .live n), q⟩ := by
  refine exec_carriesOut (k := .rampControl) (payload := [mask, mode, index]) q ha (by simp) rfl
    (fun hr => absurd hr Bool.false_ne_true) ?_ rfl
  exact (headFits_rampControl ha.2.1).trans (by rw [(splitsUnits_eq_false _ _).mpr hfits]; rfl)

/-- R105: it waits where the steps of its units are parted. -/
theorem exec_rampControl_waits (q : List Instr) (ha : arrivesAtBoundary .rampControl h n)
    (hsplits : splitsUnits mask.toNat n.boundary = true) :
    exec (.rampControl h [mask, mode, index]) ⟨n, q⟩ =
      .next ⟨enqueue .live (commandMessage h .rampControl [mask, mode, index]) n, q⟩ := by
  obtain ⟨hd, hq, hn⟩ := ha
  have hroom : (laneOf .live n).queue.length < laneCapacity .live := by
    rw [show (laneOf .live n).queue = [] from hq]
    decide
  refine exec_eq_of_node rfl ?_
  rw [deliver, if_pos (inService_of_executorRuns (executorRuns_of_laneDue hd)),
    judgeMessage_messageBytes _ (commandMessage h .rampControl [mask, mode, index]) n (by simp [commandMessage]),
    show kindLane .rampControl = .live from rfl, admit_room .live _ n hn hroom]
  dsimp only
  rw [headFits_rampControl hq, hsplits]
  simp

end

/-! ### One boundary for the units of a message -/

/-- The units that a mask names have no segment open and have taken their steps of this boundary. -/
def NotEntered (mask : Byte) (m : Node) : Prop :=
  ∀ w : Fin 6, mask.toNat.testBit w.val = true → .ramp w ∉ m.boundary ∧ m.ramps[w].segment = none

/-- Each unit that a mask names is still to take its step, in RUN at index 0, or has entered its first segment. -/
def Entering (mask : Byte) (first : Fin 6 → Segment) (m : Node) : Prop :=
  ∀ w : Fin 6, mask.toNat.testBit w.val = true →
    (.ramp w ∈ m.boundary ∧ m.ramps[w].mode = .run ∧ m.ramps[w].index = 0 ∧ m.ramps[w].segment = none) ∨
    (.ramp w ∉ m.boundary ∧ ∃ start : Int, m.ramps[w].segment =
      some { start := start, target := (first w).target, duration := (first w).duration, position := 1 })

/-- The course of a boundary that finds the RAMP_CONTROL r at the head of the live lane: it is still to be taken, or its
units are together. -/
structure Course (t : Tables) (r : Message) (mask : Byte) (first : Fin 6 → Segment) (m : Node) : Prop where
  works : executorRuns m.control.node = true
  tables : m.tables = t
  setting : m.settingLane.queue = []
  nodup : m.boundary.Nodup
  phase : (.liveTake ∈ m.boundary ∧ m.liveLane.queue = [r]) ∨
    (.liveTake ∉ m.boundary ∧ (NotEntered mask m ∨ Entering mask first m))

theorem ne_starting_of_works {s : NodeState} (h : executorRuns s = true) : s ≠ .starting := by
  rintro rfl
  cases h

section
variable {t : Tables} {r : Message} {mask : Byte} {first : Fin 6 → Segment} {m k : Node} {w : Work}

/-- A work that is neither the live lane's take nor a ramp step. -/
theorem Course.of_sameRamps (h : Course t r mask first m) (hs : SameRamps m k)
    (hb : k.boundary = m.boundary.erase w) (hl : w ≠ .liveTake) (hr : ∀ u, w ≠ .ramp u) :
    Course t r mask first k := by
  have hlive : .liveTake ∈ k.boundary ↔ .liveTake ∈ m.boundary := by rw [hb, List.mem_erase_of_ne hl.symm]
  have hramp (u : Fin 6) : .ramp u ∈ k.boundary ↔ .ramp u ∈ m.boundary := by rw [hb, List.mem_erase_of_ne (hr u).symm]
  refine ⟨by rw [hs.control, h.works], by rw [hs.tables, h.tables], by rw [hs.settingLane, h.setting],
    by rw [hb]; exact h.nodup.erase w, ?_⟩
  unfold NotEntered Entering
  simp only [hlive, hramp, hs.liveLane, hs.ramps]
  exact h.phase

/-- R104: a ramp step. -/
theorem Course.rampStep {u : Fin 6} (h : Course t r mask first m) (hu : .ramp u ∈ m.boundary)
    (hfirst : ∀ w : Fin 6, mask.toNat.testBit w.val = true →
      t.ramps[w].segments[0]? = some (first w) ∧ 1 ≤ (first w).duration) :
    Course t r mask first (rampStep u { m with boundary := m.boundary.erase (.ramp u) }) := by
  have hb : (Machine.rampStep u { m with boundary := m.boundary.erase (.ramp u) }).boundary =
      m.boundary.erase (.ramp u) := by simp [Machine.rampStep]
  have hramps (v : Fin 6) := rampStep_ramps u v { m with boundary := m.boundary.erase (.ramp u) }
  refine ⟨by simpa [Machine.rampStep] using h.works, by simpa [Machine.rampStep] using h.tables,
    by simpa [Machine.rampStep] using h.setting, by rw [hb]; exact h.nodup.erase _, ?_⟩
  rcases h.phase with ⟨hlive, hq⟩ | ⟨hlive, htogether⟩
  · refine .inl ⟨?_, by simpa [Machine.rampStep] using hq⟩
    rw [hb, List.mem_erase_of_ne (by simp)]
    exact hlive
  · refine .inr ⟨fun hmem => hlive (List.mem_of_mem_erase (by rwa [hb] at hmem)), ?_⟩
    refine htogether.imp (fun hnot w hw => ?_) fun hent w hw => ?_
    · obtain ⟨hmem, hseg⟩ := hnot w hw
      have hne : u ≠ w := by
        rintro rfl
        exact hmem hu
      rw [hramps w, if_neg hne, hb]
      exact ⟨fun hm => hmem (List.mem_of_mem_erase hm), hseg⟩
    · rw [hramps w, hb]
      by_cases hne : u = w
      · subst hne
        rcases hent u hw with ⟨-, hmode, hindex, hseg⟩ | ⟨hmem, -⟩
        · obtain ⟨hl, hd⟩ := hfirst u hw
          rw [← h.tables] at hl
          rw [if_pos rfl]
          exact .inr ⟨h.nodup.not_mem_erase, _, (stepUnit_enters _ _ _ hmode hindex hseg hl hd).2⟩
        · exact absurd hu hmem
      · have hne' : Work.ramp w ≠ .ramp u := fun he => hne (Work.ramp.inj he).symm
        rw [if_neg hne, List.mem_erase_of_ne hne']
        exact hent w hw

/-- R105: the take of the message itself, which parts no steps. -/
theorem Course.liveTake (h : Course t r mask first m) (hl : .liveTake ∈ m.boundary)
    (hm : mayTake m .liveTake = true) (hkind : r.kind = 0x27) (hpay : r.payload = [mask, 2, 0])
    (hmask : mask.toNat < 64) :
    Course t r mask first (takeLane .live { m with boundary := m.boundary.erase .liveTake }) := by
  obtain ⟨-, hq⟩ | ⟨hnone, -⟩ := h.phase
  swap
  · exact absurd hl hnone
  have hreq : requestKind .live r = some .rampControl := by
    simp only [requestKind, hkind, hpay]
    rfl
  obtain ⟨-, -, -, hsplit⟩ := mayTake_spec hm
  have hparts := (splitsUnits_eq_false _ _).mp (splitsUnits_of_head (hsplit rfl) hq hreq hpay)
  have htake : takeLane .live { m with boundary := m.boundary.erase .liveTake } =
      { m with
        boundary := m.boundary.erase .liveTake, liveLane := { m.liveLane with queue := [] }
        ramps := .ofFn fun u =>
          if mask.toNat.testBit u.val then controlUnit .run (some 0) m.tables.ramps[u] m.ramps[u] else m.ramps[u] } := by
    rw [takeLane_performs (l := .live) (n := { m with boundary := m.boundary.erase .liveTake }) h.works hq
      (by simp only [stalled, hreq]; rfl), perform, hreq]
    dsimp only
    rw [carryOut, hpay, carryRampControl_sets (m := .run) (i := some 0) rfl rfl hmask]
    rfl
  have hunit (w : Fin 6) (hw : mask.toNat.testBit w.val = true) :
      (takeLane .live { m with boundary := m.boundary.erase .liveTake }).ramps[w] =
        controlUnit .run (some 0) m.tables.ramps[w] m.ramps[w] := by
    rw [htake, ofFn_at, if_pos hw]
  have hb : (takeLane .live { m with boundary := m.boundary.erase .liveTake }).boundary =
      m.boundary.erase .liveTake := by rw [htake]
  refine ⟨by rw [htake]; exact h.works, by rw [htake]; exact h.tables, by rw [htake]; exact h.setting,
    by rw [hb]; exact h.nodup.erase _, .inr ⟨by rw [hb]; exact h.nodup.not_mem_erase, ?_⟩⟩
  by_cases hin : ∃ v : Fin 6, mask.toNat.testBit v.val = true ∧ .ramp v ∈ m.boundary
  · obtain ⟨v, hv, hmem⟩ := hin
    refine .inr fun w hw => .inl ?_
    rw [hunit w hw, hb, List.mem_erase_of_ne (by simp)]
    exact ⟨(hparts v w hv hw).mp hmem, rfl, rfl, rfl⟩
  · refine .inl fun w hw => ?_
    rw [hunit w hw, hb]
    exact ⟨fun hmem => hin ⟨w, hw, List.mem_of_mem_erase hmem⟩, rfl⟩

theorem Course.takeWork (h : Course t r mask first m) (hw : w ∈ m.boundary) (hm : mayTake m w = true)
    (hkind : r.kind = 0x27) (hpay : r.payload = [mask, 2, 0]) (hmask : mask.toNat < 64)
    (hfirst : ∀ w : Fin 6, mask.toNat.testBit w.val = true →
      t.ramps[w].segments[0]? = some (first w) ∧ 1 ≤ (first w).duration) : Course t r mask first (takeWork w m) := by
  have hs := inService_of_executorRuns h.works
  have hb := (takeWork_outer w m).2.1
  rw [takeWork_inService w m hs] at hb ⊢
  by_cases hl : w = .liveTake
  · subst hl
    exact h.liveTake hw hm hkind hpay hmask
  · by_cases hr : ∃ u, w = .ramp u
    · obtain ⟨u, rfl⟩ := hr
      exact h.rampStep hw hfirst
    · have hr' (u : Fin 6) : w ≠ .ramp u := fun he => hr ⟨u, he⟩
      refine h.of_sameRamps ?_ hb hl hr'
      by_cases hset : w = .settingTake
      · subst hset
        rw [doWork, takeLane_stands (l := .setting) (n := { m with boundary := m.boundary.erase .settingTake })
          (.inr h.setting)]
        exact ⟨rfl, rfl, rfl, rfl, rfl⟩
      · obtain ⟨h1, h2, h3, h4, h5⟩ := doWork_sameRamps w { m with boundary := m.boundary.erase w }
          (ne_starting_of_works h.works) hl hset hr'
        exact ⟨h1, h2, h3, h4, h5⟩

/-- R105: at the end of the boundary all the units have entered their first segments, or none has. -/
theorem Course.ends (h : Course t r mask first m) (hb : m.boundary = []) {u v : Fin 6}
    (hu : mask.toNat.testBit u.val = true) (hv : mask.toNat.testBit v.val = true) :
    (m.ramps[u].segment = none ↔ m.ramps[v].segment = none) ∧
    (m.ramps[u].segment ≠ none → ∃ start : Int, m.ramps[u].segment =
      some { start := start, target := (first u).target, duration := (first u).duration, position := 1 }) := by
  have hnone (w : Work) : w ∉ m.boundary := by simp [hb]
  obtain ⟨hl, -⟩ | ⟨-, hnot | hent⟩ := h.phase
  · exact absurd hl (hnone _)
  · exact ⟨iff_of_true (hnot u hu).2 (hnot v hv).2, fun hne => absurd (hnot u hu).2 hne⟩
  · obtain ⟨hmem, -⟩ | ⟨-, su, hsu⟩ := hent u hu
    · exact absurd hmem (hnone _)
    obtain ⟨hmem, -⟩ | ⟨-, sv, hsv⟩ := hent v hv
    · exact absurd hmem (hnone _)
    exact ⟨by rw [hsu, hsv]; simp, fun _ => ⟨su, hsu⟩⟩

end

theorem allWorks_nodup : allWorks.Nodup := by decide

/-- Settles O46: what the message sets and when it waits; and the course of a boundary that takes it. -/
theorem rampControlSetsUnits : Obligations.RampControlSetsUnits := by
  unfold Obligations.RampControlSetsUnits
  refine ⟨fun n q h mask mode index ha => ⟨fun hfits => ⟨fun m hm hmask hindex => ?_, fun hbad => ?_⟩,
      fun u v hu hv hin hout => ?_⟩,
    fun n m q r mask u v first hst hb hset hq hkind hpay hmask hu hv hfirst he => ?_⟩
  · obtain ⟨i, hi⟩ : ∃ i, optIndexOf 17 index = some i := by
      rcases hindex with hle | hff
      · exact ⟨_, optIndexOf_index (by omega)⟩
      · exact ⟨_, optIndexOf_absent hff⟩
    refine ⟨_, exec_eq_of_node (exec_rampControl q ha hfits) (carryRampControl_sets (rampModeOf_eq hm) hi hmask), rfl,
      fun w => ⟨fun hw => ?_, fun hw => ?_⟩⟩
    · dsimp only
      rw [ofFn_at, if_neg (by rw [hw]; exact Bool.false_ne_true), lanesTaken_ramps]
    · dsimp only
      rw [ofFn_at, if_pos hw, lanesTaken_ramps, lanesTaken_tables]
      obtain ⟨habsent, hpresent⟩ := controlUnit_index (m := m) (l := n.tables.ramps[w]) (r := n.ramps[w]) hi
      obtain ⟨hreload, hkeep⟩ := controlUnit_loops (m := m) (l := n.tables.ramps[w]) (r := n.ramps[w]) hi
      exact ⟨rfl, rfl, rfl, habsent, hpresent, hreload, hkeep⟩
  · exact exec_eq_of_node (exec_rampControl q ha hfits)
      ((carryRampControl_refuses hbad).trans (refuse_lanesTaken .live n))
  · have hsplits : splitsUnits mask.toNat n.boundary = true := by
      rw [← Bool.not_eq_false, splitsUnits_eq_false]
      exact fun hall => hout ((hall u v hu hv).mp hin)
    refine exec_eq_of_node (exec_rampControl_waits q ha hsplits) ?_
    have hempty : n.liveLane.queue = [] := ha.2.1
    rw [enqueue, withLane, laneOf, hempty]
    rfl
  · rw [exec_blockBoundary] at he
    cases he
    have hcourse : Course n.tables r mask first n := ⟨(inService_of_working hst).1, rfl, hset,
      by rw [hb]; exact allWorks_nodup, .inl ⟨by rw [hb]; decide, hq⟩⟩
    refine Course.ends (runWorks_keeps (Course n.tables r mask first)
      (fun k w hk hw hm => Course.takeWork (m := { k with choice := k.choice + 1 })
        ⟨hk.works, hk.tables, hk.setting, hk.nodup, hk.phase⟩ hw hm hkind hpay hmask hfirst) _ n hcourse)
      (completeBoundary_outer n).2 hu hv

end Sys2Proof.Machine
end

section
/-! PROOFS. The reads of the state and of the part: STATUS_READ and IDENT_READ (R160, R163, R165, R172). -/

namespace Sys2Proof.Machine

/-! ### A read that arrives at its boundary -/

/-- R157, R165: a read that finds room for its reply is carried out. -/
theorem exec_reads {k : Kind} {h : MsgHeader} {payload : List Byte} {n m : Node} (q : List Instr)
    (ha : arrivesAtBoundary k h n) (hdest : h.dest ≠ 0xF) (hroom : n.replies.length < 4) (hmax : payload.length ≤ 127)
    (hl : lengthFits k payload.length = true) (hk : k ≠ .rampControl)
    (hm : carryOut k (commandMessage h k payload) (lanesTaken (kindLane k) n) = m) :
    exec (messageCommand k h payload) ⟨n, q⟩ = .next ⟨m, q⟩ :=
  exec_carriesOut q ha hmax hl (fun _ => ⟨hdest, hroom⟩)
    (headFits_command h k payload n ha.2.1 fun he => absurd he hk) hm

theorem postReply_lanesTaken (l : LaneId) (k : Kind) (h : MsgHeader) (payload reply : List Byte) (n : Node) :
    postReply (commandMessage h k payload) reply (lanesTaken l n) =
      { lanesTaken l n with replies := n.replies ++ [replyTo k h reply n] } := by
  cases l <;> rfl

/-- Settles O48. -/
theorem identReadNamesThePart : Obligations.IdentReadNamesThePart := by
  unfold Obligations.IdentReadNamesThePart
  intro n q h ha hdest hroom
  exact exec_reads (k := .identRead) (payload := []) q ha hdest hroom (by simp) rfl (by decide)
    (postReply_lanesTaken .setting .identRead h [] _ n)

/-! ### The bytes of the views -/

theorem truncate_word (hi lo : Byte) : (hi ++ lo).truncate 13 = BitVec.ofNat 13 (256 * hi.toNat + lo.toNat) := by
  have hword : (hi ++ lo).toNat = 256 * hi.toNat + lo.toNat := by
    rw [BitVec.toNat_append, ← Nat.shiftLeft_add_eq_or_of_lt (by omega), Nat.shiftLeft_eq]
    omega
  apply BitVec.eq_of_toNat_eq
  rw [BitVec.truncate_eq_setWidth, BitVec.toNat_setWidth, hword, BitVec.toNat_ofNat]

theorem eventBytes_eq (n : Node) :
    eventBytes n = [BitVec.ofNat 8 (n.events.toNat / 256), BitVec.ofNat 8 n.events.toNat] := by
  simp [eventBytes, unsignedBytes]

theorem slotsHeld_eq (n : Node) : slotsHeld n = n.eq.slots.toList.countP (·.isSome) :=
  (List.countP_eq_length_filter ..).symm

theorem modeByte_eq (m : RampMode) (d : Bool) :
    BitVec.ofNat 8 (rampModeCode m + if d then 128 else 0) = modeCode m + if d then 128 else 0 := by
  cases m <;> cases d <;> rfl

theorem rampByte_eq (u : RampUnit) : rampByte u = modeCode u.mode + if u.done then 128 else 0 :=
  modeByte_eq u.mode u.done

theorem presenceByte_eq (n : Node) : presenceByte n =
    BitVec.ofNat 8 ((List.finRange 4).map fun p => if n.detectors[p].present then 2 ^ p.val else 0).sum := by
  have hadd (a b : Nat) (c : Bool) : (if c then a + b else a) = a + if c then b else 0 := by cases c <;> rfl
  rw [presenceByte, show List.finRange 4 = [0, 1, 2, 3] from rfl]
  simp only [List.foldl_cons, List.foldl_nil, List.map_cons, List.map_nil, List.sum_cons, List.sum_nil, hadd,
    Nat.zero_add, Nat.add_zero, Nat.add_assoc]

theorem optSetRefByte_eq (s : Option SetRef) : optSetRefByte s = viewCode s := by
  cases s with
  | none => rfl
  | some s => exact (setCode_eq s).symm

section
variable {n : Node}

theorem nodeRecord_eq {a : BitVec 3} {node code speed : Byte} (haddr : n.link.address = some a)
    (hnode : n.control.node = .halted ∧ node = 1 ∨ n.control.node = .quiet ∧ node = 2 ∨
      n.control.node = .active ∧ node = 3)
    (hcode : n.link.accepted = .run ∧ code = 1 ∨ n.link.accepted = .quiet ∧ code = 2 ∨
      n.link.accepted = .halt ∧ code = 3 ∨ n.link.accepted = .clear ∧ code = 4)
    (hspeed : n.tracker.state = .none ∧ speed = 0 ∨ n.tracker.state = .live ∧ speed = 1 ∨
      n.tracker.state = .stale ∧ speed = 2 ∨ n.tracker.state = .failed ∧ speed = 3) :
    nodeRecord n = [node, code, a.zeroExtend 8, speed] ++
      word16 (BitVec.ofNat 16 n.tracker.speed) ++ word16 (BitVec.ofNat 16 n.tracker.raw) ++
      [indexCode n.tracker.band, n.tracker.cabin.zeroExtend 8,
        BitVec.ofNat 8 (n.eq.slots.toList.countP (·.isSome)), BitVec.ofNat 8 n.eq.waiting.length] ++
      n.ramps.toList.map fun u => modeCode u.mode + if u.done then 128 else 0 := by
  have hn : (indication n.control.node).zeroExtend 8 = node := by
    rcases hnode with ⟨h, rfl⟩ | ⟨h, rfl⟩ | ⟨h, rfl⟩ <;> rw [h] <;> rfl
  have hc : (codeNumber n.link.accepted).zeroExtend 8 = code := by
    rcases hcode with ⟨h, rfl⟩ | ⟨h, rfl⟩ | ⟨h, rfl⟩ | ⟨h, rfl⟩ <;> rw [h] <;> rfl
  have hs : BitVec.ofNat 8 (speedStateCode n.tracker.state) = speed := by
    rcases hspeed with ⟨h, rfl⟩ | ⟨h, rfl⟩ | ⟨h, rfl⟩ | ⟨h, rfl⟩ <;> rw [h] <;> rfl
  rw [nodeRecord, hn, hc, hs, haddr, slotsHeld_eq, word16_ofNat, word16_ofNat, funext rampByte_eq]
  rfl

theorem zoneRecord_eq {z : Fin 4} {lift : Int} {duck : Fin 4 → Int}
    (hlift : lift = min (n.tracker.zones[z].smoothed : Int)
      (max 0 (n.tables.zones[z].ceiling - n.live.zones[z].volumeCode)))
    (hduck : ∀ p : Fin 4, duck p = duckCode n z p) : zoneRecord n z =
      [BitVec.ofNat 8 n.live.zones[z].volumeIndex] ++ word16 (BitVec.ofInt 16 n.live.zones[z].volumeCode) ++
      [BitVec.ofInt 8 n.live.zones[z].balance, BitVec.ofInt 8 n.live.zones[z].fade,
        flagCode n.live.zones[z].mute, BitVec.ofNat 8 n.tracker.zones[z].target, BitVec.ofInt 8 lift,
        BitVec.ofNat 8 n.tracker.zones[z].bass] ++
      word16 (BitVec.ofInt 16 n.guards[z].code) ++
      ((List.finRange 4).flatMap fun p => word16 (BitVec.ofInt 16 n.levels.pairs[pairIndex z p].applied)) ++
      ((List.finRange 4).flatMap fun p => word16 (BitVec.ofInt 16 (duck p))) ++
      [BitVec.ofNat 8 ((List.finRange 4).map fun p => if n.detectors[p].present then 2 ^ p.val else 0).sum] := by
  subst hlift
  simp only [zoneRecord, hduck, word16_ofInt, signedBytes_one, unsignedBytes_one, presenceByte_eq, appliedLift,
    List.append_assoc, List.cons_append, List.nil_append]
  rfl

theorem speakerRecord_eq {k : Fin 24} {target pending : Option SetRef}
    (h : n.eq.records[k].phase = .idle ∧ target = none ∧ pending = none ∨
      (∃ w, n.eq.records[k].phase = .waiting w ∧ target = some w ∧ pending = none) ∨
      ∃ t, n.eq.records[k].phase = .fading t pending ∧ target = some t) : speakerRecord n k =
      word16 (BitVec.ofInt 16 n.levels.speakers[k].applied) ++
      word16 (BitVec.ofInt 16 n.levels.speakers[k].effective) ++
      [flagCode n.live.mutes[k], setCode n.eq.records[k].current, viewCode target, viewCode pending,
        BitVec.ofNat 8 (if k ∈ n.eq.waiting then n.eq.waiting.idxOf k + 1 else 0),
        BitVec.ofNat 8 n.levels.clips[k].count] := by
  have htarget : viewTarget n.eq.records[k] = target := by
    rcases h with ⟨h, rfl, -⟩ | ⟨w, h, rfl, -⟩ | ⟨t, h, rfl⟩ <;> simp only [viewTarget, h]
  have hpending : viewPending n.eq.records[k] = pending := by
    rcases h with ⟨h, -, rfl⟩ | ⟨w, h, -, rfl⟩ | ⟨t, h, -⟩ <;> simp only [viewPending, h]
  rw [speakerRecord, htarget, hpending, optSetRefByte_eq, optSetRefByte_eq, ← setCode_eq, word16_ofInt, word16_ofInt]
  rfl

end

/-! ### STATUS_READ -/

section
variable {n : Node} {h : MsgHeader} {hi lo kind number : Byte}

/-- R163: the node after a view's reply, with the flags that the mask names cleared. -/
theorem clearEvents_postReply (reply : List Byte) :
    clearEvents (BitVec.ofNat 13 (unsignedOf [hi, lo]))
      (postReply (commandMessage h .statusRead [hi, lo, kind, number]) reply (lanesTaken .live n)) =
    { lanesTaken .live n with
      events := n.events &&& ~~~((hi ++ lo).truncate 13)
      replies := n.replies ++ [replyTo .statusRead h reply n] } := by
  rw [postReply_lanesTaken, unsignedOf_two, truncate_word]
  rfl

/-- R163: a view's reply, the flags as they stood before and the view's record. -/
theorem viewReply_eq {opening : List Byte} (record : List Byte)
    (ho : opening = [0, BitVec.ofNat 8 (n.events.toNat / 256), BitVec.ofNat 8 n.events.toNat, kind, number]) :
    [0x00] ++ eventBytes (lanesTaken .live n) ++ [kind, number] ++ record = opening ++ record := by
  rw [ho, eventBytes_eq, lanesTaken_events]
  rfl

section
variable {opening : List Byte}
  (ho : opening = [0, BitVec.ofNat 8 (n.events.toNat / 256), BitVec.ofNat 8 n.events.toNat, kind, number])
include ho

theorem carryStatusRead_node (hk : kind = 0) :
    carryStatusRead (commandMessage h .statusRead [hi, lo, kind, number]) (lanesTaken .live n) =
    { lanesTaken .live n with
      events := n.events &&& ~~~((hi ++ lo).truncate 13)
      replies := n.replies ++ [replyTo .statusRead h (opening ++ nodeRecord n) n] } := by
  rw [carryStatusRead, show (commandMessage h .statusRead [hi, lo, kind, number]).payload = [hi, lo, kind, number]
    from rfl]
  dsimp only
  rw [if_pos hk, viewReply_eq _ ho, clearEvents_postReply]
  rfl

theorem carryStatusRead_zone {z : Fin 4} (hk : kind = 1) (hz : number.toNat = z.val) :
    carryStatusRead (commandMessage h .statusRead [hi, lo, kind, number]) (lanesTaken .live n) =
    { lanesTaken .live n with
      events := n.events &&& ~~~((hi ++ lo).truncate 13)
      replies := n.replies ++ [replyTo .statusRead h (opening ++ zoneRecord n z) n] } := by
  have h0 : kind ≠ 0 := by rw [hk]; decide
  rw [carryStatusRead, show (commandMessage h .statusRead [hi, lo, kind, number]).payload = [hi, lo, kind, number]
    from rfl]
  dsimp only
  rw [if_neg h0, if_pos hk, indexOf_of_toNat hz]
  dsimp only
  rw [viewReply_eq _ ho, clearEvents_postReply]
  rfl

theorem carryStatusRead_speaker {k : Fin 24} (hk : kind = 2) (hn : number.toNat = k.val) :
    carryStatusRead (commandMessage h .statusRead [hi, lo, kind, number]) (lanesTaken .live n) =
    { lanesTaken .live n with
      events := n.events &&& ~~~((hi ++ lo).truncate 13)
      levels := { n.levels with clips := modifyVec k (fun c => { c with count := 0 }) n.levels.clips }
      replies := n.replies ++ [replyTo .statusRead h (opening ++ speakerRecord n k) n] } := by
  have h0 : kind ≠ 0 := by rw [hk]; decide
  have h1 : kind ≠ 1 := by rw [hk]; decide
  rw [carryStatusRead, show (commandMessage h .statusRead [hi, lo, kind, number]).payload = [hi, lo, kind, number]
    from rfl]
  dsimp only
  rw [if_neg h0, if_neg h1, if_pos hk, indexOf_of_toNat hn]
  dsimp only
  rw [viewReply_eq _ ho, clearEvents_postReply]
  rfl

end

/-- R163: a selector out of range or of no view. -/
theorem carryStatusRead_refuses
    (hbad : (kind = 1 ∧ 3 < number.toNat) ∨ (kind = 2 ∧ 23 < number.toNat) ∨ 2 < kind.toNat) :
    carryStatusRead (commandMessage h .statusRead [hi, lo, kind, number]) (lanesTaken .live n) =
    { lanesTaken .live n with
      replies := n.replies ++ [replyTo .statusRead h
        [if 2 < kind.toNat then 3 else 2, BitVec.ofNat 8 (n.events.toNat / 256), BitVec.ofNat 8 n.events.toNat] n] } := by
  rw [carryStatusRead, show (commandMessage h .statusRead [hi, lo, kind, number]).payload = [hi, lo, kind, number]
    from rfl]
  dsimp only
  rcases hbad with ⟨rfl, hn⟩ | ⟨rfl, hn⟩ | hk
  · rw [if_neg (by decide), if_pos rfl, indexOf_eq_none 4 number hn]
    dsimp only
    rw [postReply_lanesTaken, eventBytes_eq, lanesTaken_events]
    rfl
  · rw [if_neg (by decide), if_neg (by decide), if_pos rfl, indexOf_eq_none 24 number hn]
    dsimp only
    rw [postReply_lanesTaken, eventBytes_eq, lanesTaken_events]
    rfl
  · have h0 : kind ≠ 0 := by rintro rfl; simp at hk
    have h1 : kind ≠ 1 := by rintro rfl; simp at hk
    have h2 : kind ≠ 2 := by rintro rfl; simp at hk
    rw [if_neg h0, if_neg h1, if_neg h2, if_pos hk, postReply_lanesTaken, eventBytes_eq, lanesTaken_events]
    rfl

end

/-- R163: reading a SPEAKER view. -/
theorem clearCount_ofFn (k : Fin 24) (v : Vector Clip 24) : modifyVec k (fun c => { c with count := 0 }) v =
    .ofFn fun j => if j = k then { v[k] with count := 0 } else v[j] := by
  refine vector_eq fun j => ?_
  rw [modifyVec_at, ofFn_at]
  by_cases hj : j = k
  · rw [if_pos hj, if_pos hj, hj]
  · rw [if_neg hj, if_neg hj]

/-- Settles O47, view by view. -/
theorem statusReadRepliesThenClears : Obligations.StatusReadRepliesThenClears := by
  unfold Obligations.StatusReadRepliesThenClears
  intro n q h hi lo kind number opening ha hdest hroom ho
  have hexec {m : Node} := exec_reads (k := .statusRead) (payload := [hi, lo, kind, number]) (m := m) q ha hdest hroom
    (by simp) rfl (by decide)
  refine ⟨fun a node code speed hk haddr hnode hcode hspeed => hexec ?_, fun z lift duck hk hz hlift hduck => hexec ?_,
    fun k target pending hk hn hphase => hexec ?_, fun hbad => hexec (carryStatusRead_refuses hbad)⟩
  · refine (carryStatusRead_node ho hk).trans ?_
    rw [nodeRecord_eq haddr hnode hcode hspeed]
    simp only [List.append_assoc]
  · refine (carryStatusRead_zone ho hk hz).trans ?_
    rw [zoneRecord_eq hlift fun p => duckCode_unique (hduck p).1 (hduck p).2.1 (hduck p).2.2]
    simp only [List.append_assoc]
  · refine (carryStatusRead_speaker ho hk hn).trans ?_
    rw [speakerRecord_eq hphase, clearCount_ofFn]
    simp only [List.append_assoc]

end Sys2Proof.Machine
end

section
/-! PROOFS. TABLE_READ and the elements of a TABLE_WRITE (R158, R159, R165, R172 to R174). -/

namespace Sys2Proof.Machine

/-! ### The field groups of a stored element, in the manual's bytes -/

theorem speakerGroups_eq (r : Speaker) : speakerGroups r =
    [[flagCode r.enabled], [indexCode r.slot], [indexCode r.zone], [sideCode r.side], [endCode r.along],
      word16 (BitVec.ofInt 16 r.trim), [optCode r.ramp], word16 r.alpha, [flagCode r.bandLinked],
      counted (r.bandSets.toList.map fun s => [setCode s]),
      counted (r.taps.map fun t => indexCode t.source :: word16 t.weight)] := by
  simp only [speakerGroups, word16_ofInt, sideCode_eq, endCode_eq, optCode_eq, setCode_eq]
  simp only [word16_eq]
  rfl

theorem zoneGroups_eq (r : Zone) : zoneGroups r =
    [word16 (BitVec.ofInt 16 r.ceiling), [BitVec.ofNat 8 r.downSlew], [BitVec.ofNat 8 r.upSlew],
      [BitVec.ofNat 8 r.speakerSlew], [indexCode r.curve], [flagCode r.guardOn], [BitVec.ofNat 8 r.attack],
      word16 (BitVec.ofInt 16 r.floor), word16 (BitVec.ofNat 16 r.hold), [BitVec.ofNat 8 r.recover]] := by
  simp only [zoneGroups, word16_ofInt, word16_ofNat, unsignedBytes_one]
  rfl

theorem pairGroups_eq (r : Pair) : pairGroups r = [[flagCode r.follow], [optCode r.ramp]] := by
  rw [pairGroups, optCode_eq]
  rfl

theorem codeGroups_eq (x : Int) : codeGroups x = [word16 (BitVec.ofInt 16 x)] := by
  rw [codeGroups, word16_ofInt]

theorem presenceGroups_eq (r : PresenceEntry) :
    presenceGroups r = [word24 (BitVec.ofNat 24 r.threshold), word16 (BitVec.ofNat 16 r.hold)] := by
  rw [presenceGroups, word24_ofNat, word16_ofNat]

theorem settingsGroups_eq (r : SpeedSettings) : settingsGroups r =
    [[BitVec.ofNat 8 r.weight], word16 (BitVec.ofNat 16 r.staleTime), word16 (BitVec.ofNat 16 r.failTime),
      [BitVec.ofNat 8 r.attack], [BitVec.ofNat 8 r.release], [BitVec.ofNat 8 r.hysteresis],
      word16 (BitVec.ofNat 16 r.theta1), word16 (BitVec.ofNat 16 r.theta2), word16 (BitVec.ofNat 16 r.theta3),
      [BitVec.ofNat 8 r.bandHysteresis]] := by
  simp only [settingsGroups, word16_ofNat, unsignedBytes_one]

theorem curveGroups_eq (r : Curve) : curveGroups r =
    [counted (r.points.map fun p =>
        word16 (BitVec.ofNat 16 p.speed) ++ [BitVec.ofNat 8 p.lift, BitVec.ofNat 8 p.bass]),
      r.offsets.toList.map fun x => BitVec.ofNat 8 x] := by
  have hpoint : breakpointBytes = fun p =>
      word16 (BitVec.ofNat 16 p.speed) ++ [BitVec.ofNat 8 p.lift, BitVec.ofNat 8 p.bass] := by
    funext p
    simp only [breakpointBytes, word16_ofNat, unsignedBytes_one, List.append_assoc, List.singleton_append]
  have hoffset : unsignedBytes 1 = fun x => [BitVec.ofNat 8 x] := funext unsignedBytes_one
  rw [curveGroups, hpoint, hoffset, ← List.map_eq_flatMap]
  rfl

theorem eqSetGroups_eq (r : List Section) : eqSetGroups r =
    [counted (r.map fun s => word24 s.b0 ++ word24 s.b1 ++ word24 s.b2 ++ word24 s.a1 ++ word24 s.a2)] := by
  simp only [eqSetGroups, word24_eq]
  rfl

theorem nodeGroups_eq (r : NodeEntry) : nodeGroups r =
    [word16 (BitVec.ofNat 16 r.crossfadeLength), word16 (r.attentionMask.zeroExtend 16)] := by
  have hmask : (r.attentionMask.zeroExtend 16).toNat = r.attentionMask.toNat := by
    rw [BitVec.zeroExtend_eq_setWidth, BitVec.toNat_setWidth]
    omega
  rw [nodeGroups, word16_ofNat, word16_eq, hmask]

theorem rampGroups_eq (r : RampList) : rampGroups r =
    [counted (r.segments.map fun s =>
        word16 (BitVec.ofInt 16 s.target) ++ word16 (BitVec.ofNat 16 s.duration)),
      [optCode r.loopStart], [r.loopCount]] := by
  simp only [rampGroups, word16_ofInt, word16_ofNat, optCode_eq]
  rfl

/-! ### TABLE_READ -/

theorem tableOf_none {id : Byte} (h : id = 0 ∨ 13 < id.toNat) : tableOf id = none := by
  rcases h with rfl | h
  · rfl
  · unfold tableOf
    split
    case h_14 => rfl
    all_goals omega

theorem elementBytes_lanesTaken (l : LaneId) (n : Node) (t : TableId) (mask i : Nat) :
    elementBytes (lanesTaken l n) t mask i = elementBytes n t mask i := by
  unfold elementBytes elementGroups
  rw [lanesTaken_tables]

theorem toList_at {α : Type} {k : Nat} (v : Vector α k) (j : Fin k) : v.toList[j.val]? = some v[j] := by simp

/-- What a table's stored elements spell, group by group. -/
def TableSpells (n : Node) (t : TableId) (groups : Nat → List (List Byte)) : Prop :=
  ∀ j, j < tableSize t → elementGroups n t j = some (groups j)

theorem TableSpells.elementBytes {n : Node} {t : TableId} {groups : Nat → List (List Byte)}
    (h : TableSpells n t groups) (mask : Nat) {j : Nat} (hj : j < tableSize t) :
    elementBytes n t mask j = some (selected mask (groups j)) := by
  rw [Machine.elementBytes, h j hj, selected_eq]
  rfl

/-- The elements of a table that is a vector of records. -/
theorem vector_spells {α : Type} {k : Nat} (v : Vector α k) (spell : α → List (List Byte)) {groups : Nat → List (List Byte)}
    (h : ∀ j : Fin k, groups j.val = spell v[j]) {j : Nat} (hj : j < k) :
    (v.toList[j]?).map spell = some (groups j) := by
  rw [toList_at v ⟨j, hj⟩, Option.map_some, ← h ⟨j, hj⟩]

/-- R174: the bytes gathered by a TABLE_READ of a table. -/
theorem tableReadReply_spec {n : Node} {t : TableId} {groups : Nat → List (List Byte)} {id first count hi lo : Byte}
    (ht : tableOf id = some t) (hg : TableSpells n t groups) :
    (tableSize t ≤ first.toNat →
      tableReadReply (lanesTaken .setting n) id first count hi lo = [2, id, first, 0, hi, lo]) ∧
    (first.toNat < tableSize t → ∃ elements : List (List Byte),
      tableReadReply (lanesTaken .setting n) id first count hi lo =
        [0, id, first, BitVec.ofNat 8 elements.length, hi, lo] ++ elements.flatten ∧
      elements.length ≤ count.toNat ∧ elements.flatten.length ≤ 121 ∧
      (∀ i e, elements[i]? = some e → first.toNat + i < tableSize t ∧
        e = selected (256 * hi.toNat + lo.toNat) (groups (first.toNat + i))) ∧
      (elements.length = count.toNat ∨ first.toNat + elements.length = tableSize t ∨ 121 < elements.flatten.length +
        (selected (256 * hi.toNat + lo.toNat) (groups (first.toNat + elements.length))).length)) := by
  have hbytes (i : Nat) : elementBytes (lanesTaken .setting n) t (unsignedOf [hi, lo]) i =
      elementBytes n t (256 * hi.toNat + lo.toNat) i := by
    rw [elementBytes_lanesTaken, unsignedOf_two]
  have hin {i : Nat} {e : List Byte} (h : elementBytes n t (256 * hi.toNat + lo.toNat) i = some e) :
      i < tableSize t ∧ e = selected (256 * hi.toNat + lo.toNat) (groups i) := by
    have hi := (elementBytes_isSome n t _ i).mp (by rw [h]; rfl)
    exact ⟨hi, Option.some.inj (h.symm.trans (hg.elementBytes _ hi))⟩
  unfold tableReadReply
  rw [ht]
  dsimp only
  refine ⟨fun hbeyond => if_neg (by omega), fun hlt => ?_⟩
  obtain ⟨es, hread, hcount, hroom, hall, hstop⟩ := readElements_spec (lanesTaken .setting n) t (unsignedOf [hi, lo])
    count.toNat first.toNat 121
  rw [if_pos hlt, hread]
  simp only [hbytes] at hall hstop
  refine ⟨es, rfl, hcount, hroom, fun i e he => hin (hall i e he), ?_⟩
  rcases hstop with h | h | ⟨e, he, hlen⟩
  · exact .inl h
  · by_cases hsize : first.toNat + es.length < tableSize t
    · rw [hg.elementBytes _ hsize] at h
      cases h
    · refine .inr (.inl (le_antisymm ?_ (by omega)))
      by_cases hz : es.length = 0
      · omega
      · obtain ⟨hlast, -⟩ := hin (hall (es.length - 1) es[es.length - 1] (List.getElem?_eq_getElem (by omega)))
        omega
  · exact .inr (.inr (by rw [← (hin he).2]; exact hlen))

/-- Settles O49, table by table. -/
theorem tableReadReturnsWholeElements : Obligations.TableReadReturnsWholeElements := by
  unfold Obligations.TableReadReturnsWholeElements
  intro n q h id first count hi lo ha hdest hroom
  refine ⟨tableReadReply (lanesTaken .setting n) id first count hi lo,
    exec_reads (k := .tableRead) (payload := [id, first, count, hi, lo]) q ha hdest hroom (by simp) rfl (by decide)
      (postReply_lanesTaken .setting .tableRead h _ _ n),
    fun hid => by rw [tableReadReply, tableOf_none hid], fun size groups hg => ?_⟩
  obtain ⟨t, ht, rfl, hspells⟩ : ∃ t, tableOf id = some t ∧ size = tableSize t ∧ TableSpells n t groups := by
    rcases hg with ⟨rfl, rfl, hg⟩ | ⟨rfl, rfl, hg⟩ | ⟨rfl, rfl, hg⟩ | ⟨rfl, rfl, hg⟩ | ⟨rfl, rfl, hg⟩ | ⟨rfl, rfl, hg⟩ |
      ⟨rfl, rfl, hg⟩ | ⟨rfl, rfl, hg⟩ | ⟨rfl, rfl, hg⟩ | ⟨rfl, rfl, hg⟩ | ⟨rfl, rfl, hg⟩ | ⟨rfl, rfl, hg⟩ | ⟨rfl, rfl, hg⟩
    · exact ⟨.source, rfl, rfl, fun j => vector_spells n.tables.sources sourceGroups hg⟩
    · exact ⟨.speaker, rfl, rfl, fun j => vector_spells n.tables.speakers speakerGroups fun j =>
        (hg j _ rfl).trans (speakerGroups_eq _).symm⟩
    · exact ⟨.zone, rfl, rfl, fun j => vector_spells n.tables.zones zoneGroups fun j =>
        (hg j _ rfl).trans (zoneGroups_eq _).symm⟩
    · exact ⟨.pair, rfl, rfl, fun j => vector_spells n.tables.pairs pairGroups fun j =>
        (hg j).trans (pairGroups_eq _).symm⟩
    · exact ⟨.duck, rfl, rfl, fun j => vector_spells n.tables.duck codeGroups fun j =>
        (hg j).trans (codeGroups_eq _).symm⟩
    · exact ⟨.presence, rfl, rfl, fun j => vector_spells n.tables.presence presenceGroups fun j =>
        (hg j).trans (presenceGroups_eq _).symm⟩
    · exact ⟨.volume, rfl, rfl, fun j => vector_spells n.tables.volume codeGroups fun j =>
        (hg j).trans (codeGroups_eq _).symm⟩
    · exact ⟨.balance, rfl, rfl, fun j => vector_spells n.tables.balance codeGroups fun j =>
        (hg j).trans (codeGroups_eq _).symm⟩
    · refine ⟨.settings, rfl, rfl, fun j hj => ?_⟩
      obtain rfl : j = 0 := Nat.lt_one_iff.mp hj
      exact congrArg some ((settingsGroups_eq _).trans (hg _ rfl).symm)
    · exact ⟨.curve, rfl, rfl, fun j => vector_spells n.tables.curves curveGroups fun j =>
        (hg j).trans (curveGroups_eq _).symm⟩
    · exact ⟨.eqSet, rfl, rfl, fun j => vector_spells n.tables.eqSets eqSetGroups fun j =>
        (hg j).trans (eqSetGroups_eq _).symm⟩
    · refine ⟨.node, rfl, rfl, fun j hj => ?_⟩
      obtain rfl : j = 0 := Nat.lt_one_iff.mp hj
      exact congrArg some ((nodeGroups_eq _).trans hg.symm)
    · exact ⟨.ramp, rfl, rfl, fun j => vector_spells n.tables.ramps rampGroups fun j =>
        (hg j _ rfl).trans (rampGroups_eq _).symm⟩
  exact tableReadReply_spec ht hspells

/-! ### The elements of a TABLE_WRITE -/

theorem refuse_refuse (n : Node) : refuse (refuse n) = refuse n := by
  unfold refuse raise
  dsimp only
  rw [BitVec.or_assoc, BitVec.or_self]

section
variable {n : Node} {h : MsgHeader} {id i count hi lo : Byte} {rest : List Byte}

theorem exec_tableWrite (q : List Instr) (ha : arrivesAtBoundary .tableWrite h n) (hlen : rest.length ≤ 122) :
    exec (.tableWrite h ([id, i, count, hi, lo] ++ rest)) ⟨n, q⟩ =
      .next ⟨carryTableWrite ([id, i, count, hi, lo] ++ rest) (lanesTaken .setting n), q⟩ :=
  exec_writes (k := .tableWrite) (payload := [id, i, count, hi, lo] ++ rest) q ha
    (by simp only [List.length_append, List.length_cons, List.length_nil]; omega) (by simp [lengthFits]) rfl (by decide)
    rfl

theorem carryTableWrite_unknown (hid : id = 0 ∨ 13 < id.toNat) :
    carryTableWrite ([id, i, count, hi, lo] ++ rest) n = refuse n := by
  simp only [List.cons_append, List.nil_append, carryTableWrite, tableOf_none hid]

theorem carryTableWrite_table {t : TableId} (ht : tableOf id = some t) :
    carryTableWrite ([id, i, count, hi, lo] ++ rest) n =
      writeElements t (256 * hi.toNat + lo.toNat) count.toNat i.toNat rest n := by
  simp only [List.cons_append, List.nil_append, carryTableWrite, ht, unsignedOf_two]

end

/-- Elements beyond their table are refused one by one. -/
theorem writeElements_beyond (t : TableId) (mask : Nat) : ∀ (count idx : Nat) (bs : List Byte) (n : Node),
    tableSize t ≤ idx → writeElements t mask count idx bs (refuse n) = refuse n
  | 0, _, bs, n, _ => by
    rw [writeElements]
    split
    · rfl
    · exact refuse_refuse n
  | count + 1, idx, bs, n, h => by
    rw [writeElements]
    split
    · exact refuse_refuse n
    · rw [writeElement_beyond t idx h, refuse_refuse]
      exact writeElements_beyond t mask count (idx + 1) _ n (by omega)

/-- A message whose first element lies beyond its table writes nothing. -/
theorem writeElements_first_beyond (t : TableId) (mask count idx : Nat) (bs : List Byte) (n : Node)
    (h : tableSize t ≤ idx) : writeElements t mask (count + 1) idx bs n = refuse n := by
  rw [writeElements]
  split
  · rfl
  · rw [writeElement_beyond t idx h]
    exact writeElements_beyond t mask count (idx + 1) _ n (by omega)

theorem toNat_succ {b : Byte} (h : b ≠ 0xFF) : (b + 1).toNat = b.toNat + 1 := by
  have hne : b.toNat ≠ 255 := fun e => h (BitVec.eq_of_toNat_eq e)
  have hlt := b.isLt
  rw [BitVec.toNat_add]
  simp
  omega

theorem toNat_ne_zero {b : Byte} (h : b ≠ 0) : ∃ k, b.toNat = k + 1 := by
  have hne : b.toNat ≠ 0 := fun e => h (BitVec.eq_of_toNat_eq e)
  exact ⟨b.toNat - 1, by omega⟩

/-- A TABLE_WRITE's node with the boundary as it was: the message still arrives, and the lanes' takes leave that node. -/
theorem arrives_again {n m : Node} {h : MsgHeader} (hs : SameOuter (lanesTaken .setting n) m)
    (ha : arrivesAtBoundary .tableWrite h n) : arrivesAtBoundary .tableWrite h { m with boundary := n.boundary } ∧
      lanesTaken .setting { m with boundary := n.boundary } = m := by
  obtain ⟨hdue, hq, hdest⟩ := ha
  have hlink : m.link = n.link := hs.link.trans (lanesTaken_link _ _)
  refine ⟨⟨?_, ?_, ?_⟩, ?_⟩
  · simp only [laneDue, kindLane, hs.control, hs.liveLane, lanesTaken_control, lanesTaken_liveLane] at hdue ⊢
    exact hdue
  · simp only [laneOf, kindLane, hs.settingLane, lanesTaken_settingLane] at hq ⊢
    exact hq
  · simp only [addressNibble, hlink] at hdest ⊢
    exact hdest
  · have hb : (n.boundary.erase .liveTake).erase .settingTake = m.boundary := hs.boundary.symm
    rw [lanesTaken, hb]

theorem tableOf_some {id : Byte} (h0 : id ≠ 0) (h13 : id.toNat ≤ 13) : ∃ t, tableOf id = some t := by
  obtain ⟨k, hk⟩ := toNat_ne_zero h0
  unfold tableOf
  rw [hk] at h13 ⊢
  have hlt : k < 13 := by omega
  interval_cases k <;> exact ⟨_, rfl⟩

section
variable {n : Node} {t : TableId} {mask count idx : Nat} {groups : List (List Byte)}
  (hfits : List.Forall₂ shapeFits (tableShape t) groups)
include hfits

/-- A payload that ends inside its first element. -/
theorem writeElements_short {rest : List Byte} (hpre : rest <+: selected mask groups) (hne : rest ≠ selected mask groups) :
    writeElements t mask (count + 1) idx rest n = refuse n := by
  rw [selected_eq] at hpre hne
  rw [writeElements, cutElement_short mask _ groups 0 rest hfits hpre hne]

/-- The first element is written, and the elements after it on the node that this leaves. -/
theorem writeElements_first : ∃ vs, ∀ (count : Nat) (rest : List Byte),
    writeElements t mask (count + 1) idx (selected mask groups ++ rest) n =
      writeElements t mask count (idx + 1) rest (writeElement t mask idx vs n) := by
  obtain ⟨vs, hcut⟩ := cutElement_fits mask _ groups 0 hfits
  refine ⟨vs, fun count rest => ?_⟩
  rw [selected_eq, writeElements, hcut rest]

end

/-- Settles O50: the elements are cut off one after another. -/
theorem tableWriteGoesElementByElement : Obligations.TableWriteGoesElementByElement := by
  unfold Obligations.TableWriteGoesElementByElement
  intro n q h id i count hi lo rest ha hlen
  have hexec {i count : Byte} := exec_tableWrite (id := id) (i := i) (count := count) (hi := hi) (lo := lo) q ha hlen
  refine ⟨fun hid => ?_, fun h0 h13 => ?_, fun size shape htable => ?_⟩
  · rw [hexec, carryTableWrite_unknown hid, refuse_lanesTaken]
    rfl
  · obtain ⟨t, ht⟩ := tableOf_some h0 h13
    rw [hexec, carryTableWrite_table ht, show (0 : Byte).toNat = 0 from rfl, writeElements, refuse_lanesTaken]
    cases rest <;> rfl
  · obtain ⟨t, ht, rfl, rfl⟩ : ∃ t, tableOf id = some t ∧ size = tableSize t ∧ shape = tableShape t := by
      rcases htable with ⟨rfl, rfl, rfl⟩ | ⟨rfl, rfl, rfl⟩ | ⟨rfl, rfl, rfl⟩ | ⟨rfl, rfl, rfl⟩ | ⟨rfl, rfl, rfl⟩ |
        ⟨rfl, rfl, rfl⟩ | ⟨rfl, rfl, rfl⟩ | ⟨rfl, rfl, rfl⟩ | ⟨rfl, rfl, rfl⟩ | ⟨rfl, rfl, rfl⟩ | ⟨rfl, rfl, rfl⟩ |
        ⟨rfl, rfl, rfl⟩ | ⟨rfl, rfl, rfl⟩ <;> exact ⟨_, rfl, rfl, rfl⟩
    refine ⟨fun hbeyond hcount => ?_, fun groups element hfits helement => ⟨fun hpre hne hcount => ?_,
      fun hall hindex hcount => ?_⟩⟩
    · obtain ⟨c, hc⟩ := toNat_ne_zero hcount
      rw [hexec, carryTableWrite_table ht, hc, writeElements_first_beyond t _ c _ _ _ hbeyond, refuse_lanesTaken]
      rfl
    · obtain ⟨c, hc⟩ := toNat_ne_zero hcount
      rw [helement] at hpre hne
      rw [hexec, carryTableWrite_table ht, hc, writeElements_short hfits hpre hne, refuse_lanesTaken]
      rfl
    · subst helement
      rw [List.length_append] at hall
      obtain ⟨vs, hwrite⟩ := writeElements_first (n := lanesTaken .setting n) (mask := 256 * hi.toNat + lo.toNat)
        (idx := i.toNat) hfits
      have hsame := writeElement_sameOuter t (256 * hi.toNat + lo.toNat) i.toNat vs (lanesTaken .setting n)
      obtain ⟨harrives, htaken⟩ := arrives_again hsame ha
      refine ⟨writeElement t (256 * hi.toNat + lo.toNat) i.toNat vs (lanesTaken .setting n), ?_, ?_⟩
      · rw [exec_tableWrite q ha (by omega), carryTableWrite_table ht, show (1 : Byte).toNat = 0 + 1 from rfl]
        rw [← List.append_nil (selected _ groups), hwrite 0 [], writeElements]
        rfl
      · rw [List.append_assoc, exec_tableWrite q ha (by rw [List.length_append]; omega), carryTableWrite_table ht,
          toNat_succ hcount, hwrite, exec_tableWrite q harrives hlen, htaken, carryTableWrite_table ht, toNat_succ hindex]

end Sys2Proof.Machine
end

section
/-! PROOFS. The wire: the bits of a frame and the frame that bits spell. -/
namespace Sys2Proof.Machine

/-! ### The bits of one field -/

@[simp] theorem fieldBits_length {w : Nat} (x : BitVec w) : (fieldBits x).length = w := List.length_ofFn

theorem fieldBits_getElem? {w : Nat} (x : BitVec w) {i : Nat} (hi : i < w) :
    (fieldBits x)[i]? = some (x.getMsbD i) := by
  rw [fieldBits, List.getElem?_ofFn, dif_pos hi]

/-- The bits of the number that bits spell are those bits, the last one the lowest. -/
theorem spelled_testBit (l : List Bool) (j : Nat) :
    (l.foldl (fun a (b : Bool) => 2 * a + b.toNat) 0).testBit j = l.reverse[j]?.getD false := by
  induction l using List.reverseRecOn generalizing j with
  | nil => simp
  | append_singleton l b ih =>
    rw [List.foldl_append, List.reverse_append, List.foldl_cons, List.foldl_nil, List.reverse_singleton,
      List.singleton_append]
    cases j with
    | zero => cases b <;> simp [Nat.testBit_zero]
    | succ j =>
      rw [Nat.testBit_succ, List.getElem?_cons_succ, ← ih]
      congr 1
      cases b
      · simp
      · simp; omega

/-- Bits as many as a field has, taken for the field, are the field's bits. -/
theorem fieldBits_bitsField {w : Nat} {l : List Bool} (hl : l.length = w) : fieldBits (bitsField w l) = l := by
  subst hl
  refine List.ext_getElem (fieldBits_length _) fun i _ hi => ?_
  have hlow : l.length - 1 - i < l.length := by omega
  have hback : l.length - 1 - (l.length - 1 - i) = i := by omega
  simp only [fieldBits, bitsField, List.getElem_ofFn, BitVec.getMsbD, BitVec.getLsbD_ofNat, hi, hlow, decide_true,
    Bool.true_and, spelled_testBit, List.getElem?_reverse hlow, hback, List.getElem?_eq_getElem hi, Option.getD_some]

theorem fieldBits_injective {w : Nat} {x y : BitVec w} (h : fieldBits x = fieldBits y) : x = y :=
  BitVec.eq_of_getMsbD_eq fun i hi =>
    Option.some_injective _ (by rw [← fieldBits_getElem? x hi, h, fieldBits_getElem? y hi])

theorem bitsField_fieldBits {w : Nat} (x : BitVec w) : bitsField w (fieldBits x) = x :=
  fieldBits_injective (fieldBits_bitsField (fieldBits_length x))

/-- Bits are taken for a field exactly where they are its bits. -/
theorem bitsField_eq_iff {w : Nat} {l : List Bool} (hl : l.length = w) (x : BitVec w) :
    bitsField w l = x ↔ l = fieldBits x :=
  ⟨fun h => h ▸ (fieldBits_bitsField hl).symm, fun h => h ▸ bitsField_fieldBits x⟩

/-! ### A field at its place -/

/-- The bits of a field stand at a position of a wire image. -/
def StandsAt {w : Nat} (l : List Bool) (p : Nat) (x : BitVec w) : Prop := (l.drop p).take w = fieldBits x

theorem standsAt_head {w : Nat} (x : BitVec w) (rest : List Bool) : StandsAt (fieldBits x ++ rest) 0 x := by
  rw [StandsAt, List.drop_zero, List.take_left' (fieldBits_length x)]

theorem StandsAt.behind {w p : Nat} {l : List Bool} {x : BitVec w} (h : StandsAt l p x) (before : List Bool) :
    StandsAt (before ++ l) (before.length + p) x := by
  rw [StandsAt, List.drop_length_add_append, h]

theorem StandsAt.at {w p q : Nat} {l : List Bool} {x : BitVec w} (h : StandsAt l p x) (hq : p = q) :
    StandsAt l q x := hq ▸ h

theorem StandsAt.read {w p : Nat} {l : List Bool} {x : BitVec w} (h : StandsAt l p x) :
    bitsField w ((l.drop p).take w) = x := by
  rw [show (l.drop p).take w = _ from h, bitsField_fieldBits]

theorem StandsAt.bit {w p : Nat} {l : List Bool} {x : BitVec w} (h : StandsAt l p x) {i : Nat} (hi : i < w) :
    l[p + i]? = some (x.getMsbD i) := by
  rw [← fieldBits_getElem? x hi, ← show (l.drop p).take w = _ from h, List.getElem?_take, if_pos hi,
    List.getElem?_drop]

/-- A field that stands at the very end needs no cut behind it. -/
theorem StandsAt.read_last {w p : Nat} {l : List Bool} {x : BitVec w} (h : StandsAt l p x) (hl : l.length = p + w) :
    bitsField w (l.drop p) = x := by
  have hall : (l.drop p).length ≤ w := by rw [List.length_drop]; omega
  rw [← List.take_of_length_le hall, h.read]

/-! ### Cells and rows of fields -/

theorem markerOf_markerCode (k : Marker) : markerOf (markerCode k) = k := by
  cases k <;> rfl

@[simp] theorem cellBits_length (c : Cell) : (cellBits c).length = 10 := by
  rw [cellBits, List.length_append, fieldBits_length, fieldBits_length]

theorem row_length {w : Nat} (l : List (BitVec w)) : (l.flatMap fun s => fieldBits s).length = w * l.length := by
  induction l with
  | nil => rfl
  | cons s l ih => rw [List.flatMap_cons, List.length_append, ih, fieldBits_length, List.length_cons]; ring

/-- Where a field of a row stands inside the row. -/
theorem row_split {w n : Nat} (v : Vector (BitVec w) n) (k : Fin n) :
    ∃ before after, (v.toList.flatMap fun s => fieldBits s) = before ++ (fieldBits v[k] ++ after) ∧
      before.length = w * k.val := by
  have hk : k.val < v.toList.length := by rw [Vector.length_toList]; exact k.isLt
  refine ⟨(v.toList.take k.val).flatMap fun s => fieldBits s, (v.toList.drop (k.val + 1)).flatMap fun s => fieldBits s,
    ?_, ?_⟩
  · conv_lhs => rw [← List.take_append_drop k.val v.toList, List.drop_eq_getElem_cons hk]
    rw [List.flatMap_append, List.flatMap_cons, Vector.getElem_toList]
    rfl
  · rw [row_length, List.length_take, min_eq_left hk.le]

/-- A field of a row stands at its place in a wire image that begins with the row. -/
theorem standsAt_row {w n : Nat} (v : Vector (BitVec w) n) (k : Fin n) (rest : List Bool) :
    StandsAt ((v.toList.flatMap fun s => fieldBits s) ++ rest) (w * k.val) v[k] := by
  obtain ⟨before, after, hrow, hbefore⟩ := row_split v k
  rw [hrow, List.append_assoc, List.append_assoc]
  exact ((standsAt_head v[k] (after ++ rest)).behind before).at hbefore

/-- A cell whose two fields stand at their places is read back. -/
theorem cellOf_standsAt {l : List Bool} {p : Nat} {c : Cell} (hmarker : StandsAt l p (markerCode c.marker))
    (hbyte : StandsAt l (p + 2) c.byte) : cellOf ((l.drop p).take 10) = c := by
  rw [cellOf, List.take_take, List.drop_take, List.drop_drop, List.take_take, show min 2 10 = 2 from rfl,
    show min 8 (10 - 2) = 8 from rfl, hmarker.read, hbyte.read, markerOf_markerCode]

/-! ### The two frames -/

theorem downBits_length (f : DownFrame) : (downBits f).length = 832 := by
  simp only [downBits, List.length_append, fieldBits_length, cellBits_length, row_length, Vector.length_toList]

theorem upBits_length (f : UpFrame) : (upBits f).length = 832 := by
  simp only [upBits, List.length_append, fieldBits_length, cellBits_length, row_length, Vector.length_toList]

/-- R169: every field of a downstream frame stands at its place. -/
theorem downBits_fields (f : DownFrame) :
    StandsAt (downBits f) 0 downSync ∧ StandsAt (downBits f) 16 f.hop ∧ StandsAt (downBits f) 19 f.code ∧
    (StandsAt (downBits f) 23 (markerCode f.setting.marker) ∧ StandsAt (downBits f) 25 f.setting.byte) ∧
    (StandsAt (downBits f) 33 (markerCode f.live.marker) ∧ StandsAt (downBits f) 35 f.live.byte) ∧
    (∀ k : Fin 32, StandsAt (downBits f) (43 + 24 * k.val) f.slots[k]) ∧ StandsAt (downBits f) 811 f.fill := by
  have hbits : downBits f = fieldBits downSync ++ (fieldBits f.hop ++ (fieldBits f.code ++
      (fieldBits (markerCode f.setting.marker) ++ (fieldBits f.setting.byte ++
      (fieldBits (markerCode f.live.marker) ++ (fieldBits f.live.byte ++
      ((f.slots.toList.flatMap fun s => fieldBits s) ++ (fieldBits f.fill ++ [])))))))) := by
    simp only [downBits, cellBits, List.append_assoc, List.append_nil]
  rw [hbits]
  refine ⟨standsAt_head _ _, ((standsAt_head _ _).behind _).at ?_, (((standsAt_head _ _).behind _).behind _).at ?_,
    ⟨((((standsAt_head _ _).behind _).behind _).behind _).at ?_,
      (((((standsAt_head _ _).behind _).behind _).behind _).behind _).at ?_⟩,
    ⟨((((((standsAt_head _ _).behind _).behind _).behind _).behind _).behind _).at ?_,
      (((((((standsAt_head _ _).behind _).behind _).behind _).behind _).behind _).behind _).at ?_⟩,
    fun k => ((((((((standsAt_row f.slots k _).behind _).behind _).behind _).behind _).behind _).behind _).behind _).at ?_,
    (((((((((standsAt_head _ _).behind _).behind _).behind _).behind _).behind _).behind _).behind _).behind _).at ?_⟩
  all_goals simp only [fieldBits_length, row_length, Vector.length_toList]
  omega

/-- R169: every field of an upstream frame stands at its place. -/
theorem upBits_fields (f : UpFrame) :
    StandsAt (upBits f) 0 upSync ∧
    (StandsAt (upBits f) 16 (markerCode f.reply.marker) ∧ StandsAt (upBits f) 18 f.reply.byte) ∧
    (∀ p : Fin 4, StandsAt (upBits f) (26 + 12 * p.val) f.status[p]) ∧ StandsAt (upBits f) 74 f.fill := by
  have hbits : upBits f = fieldBits upSync ++ (fieldBits (markerCode f.reply.marker) ++ (fieldBits f.reply.byte ++
      ((f.status.toList.flatMap fun s => fieldBits s) ++ (fieldBits f.fill ++ [])))) := by
    simp only [upBits, cellBits, List.append_assoc, List.append_nil]
  rw [hbits]
  refine ⟨standsAt_head _ _, ⟨((standsAt_head _ _).behind _).at ?_, (((standsAt_head _ _).behind _).behind _).at ?_⟩,
    fun p => ((((standsAt_row f.status p _).behind _).behind _).behind _).at ?_,
    (((((standsAt_head _ _).behind _).behind _).behind _).behind _).at ?_⟩
  all_goals simp only [fieldBits_length, row_length, Vector.length_toList]
  omega

theorem downOf_downBits (f : DownFrame) : downOf (downBits f) = some f := by
  obtain ⟨hsync, hhop, hcode, hsetting, hlive, hslots, hfill⟩ := downBits_fields f
  have hslots' : (Vector.ofFn fun k : Fin 32 => bitsField 24 (((downBits f).drop (43 + 24 * k.val)).take 24)) = f.slots :=
    Vector.ext fun k hk => by rw [Vector.getElem_ofFn]; exact (hslots ⟨k, hk⟩).read
  rw [downOf, if_pos ⟨downBits_length f, hsync.read⟩, hhop.read, hcode.read, cellOf_standsAt hsetting.1 hsetting.2,
    cellOf_standsAt hlive.1 hlive.2, hslots', hfill.read_last (downBits_length f)]

theorem upOf_upBits (f : UpFrame) : upOf (upBits f) = some f := by
  obtain ⟨hsync, hreply, hstatus, hfill⟩ := upBits_fields f
  have hstatus' : (Vector.ofFn fun p : Fin 4 => bitsField 12 (((upBits f).drop (26 + 12 * p.val)).take 12)) = f.status :=
    Vector.ext fun p hp => by rw [Vector.getElem_ofFn]; exact (hstatus ⟨p, hp⟩).read
  rw [upOf, if_pos ⟨upBits_length f, hsync.read⟩, cellOf_standsAt hreply.1 hreply.2, hstatus',
    hfill.read_last (upBits_length f)]

/-- Bits of a frame's length begin with a sync exactly where the sync is read there. -/
theorem sync_iff {l : List Bool} (hl : l.length = 832) (sync : BitVec 16) :
    (l.length = 832 ∧ bitsField 16 (l.take 16) = sync) ↔ l.take 16 = fieldBits sync := by
  rw [bitsField_eq_iff (by rw [List.length_take, hl]; rfl)]
  exact and_iff_right hl

/-- The four codes of R169 leave no other marker code. -/
theorem markerCode_unique {code : Marker → BitVec 2} (hidle : code .idle = 0) (hdata : code .data = 1)
    (hfin : code .fin = 2) (habort : code .abort = 3) (k : Marker) : code k = markerCode k := by
  cases k
  · exact hidle
  · exact hdata
  · exact hfin
  · exact habort

/-- Settles O60: each field stands at its place of the concatenation, and is read back from there. -/
theorem frameBitsSpellTheFrame : Obligations.FrameBitsSpellTheFrame := by
  unfold Obligations.FrameBitsSpellTheFrame
  refine ⟨fun f code hidle hdata hfin habort => ?_, fun f code hidle hdata hfin habort => ?_, fun l hl => ⟨?_, ?_⟩⟩
  · obtain ⟨hsync, hhop, hcode, hsetting, hlive, hslots, hfill⟩ := downBits_fields f
    have hmarker := markerCode_unique hidle hdata hfin habort
    simp only [hmarker]
    exact ⟨downOf_downBits f, downBits_length f, fun i hi => (congrArg _ (Nat.zero_add i).symm).trans (hsync.bit hi), fun i => hhop.bit,
      fun i => hcode.bit, fun i hi => ⟨hsetting.1.bit hi, hlive.1.bit hi⟩,
      fun i hi => ⟨hsetting.2.bit hi, hlive.2.bit hi⟩, fun k i => (hslots k).bit, fun i => hfill.bit⟩
  · obtain ⟨hsync, hreply, hstatus, hfill⟩ := upBits_fields f
    have hmarker := markerCode_unique hidle hdata hfin habort
    simp only [hmarker]
    exact ⟨upOf_upBits f, upBits_length f, fun i hi => (congrArg _ (Nat.zero_add i).symm).trans (hsync.bit hi), fun i => hreply.1.bit,
      fun i => hreply.2.bit, fun p i => (hstatus p).bit, fun i => hfill.bit⟩
  · rw [← sync_iff hl, downOf]
    split <;> simp_all [downSync]
  · rw [← sync_iff hl, upOf]
    split <;> simp_all [upSync]

end Sys2Proof.Machine
end

section
/-! PROOFS. EQ_SELECT and the desired-set requests (R75, R76, R79 to R84, R90). -/

namespace Sys2Proof.Machine

/-! ### A desired-set request, by the speaker's EQ state -/

theorem modifyVec_ofFn {α : Type} {k : Nat} (i : Fin k) (f : α → α) (v : Vector α k) :
    modifyVec i f v = .ofFn fun j => if j = i then f v[i] else v[j] := by
  refine Vector.ext fun j hj => ?_
  rw [Vector.getElem_ofFn, ← Fin.getElem_fin (i := ⟨j, hj⟩), modifyVec_at]
  by_cases h : (⟨j, hj⟩ : Fin k) = i
  · rw [if_pos h, if_pos h, h]
  · rw [if_neg h, if_neg h]

/-- The node with one EQ state record replaced. -/
theorem modifyRecord_ofFn {x : Node} {k : Fin 24} {f : EqRecord → EqRecord} {r : EqRecord} (h : f x.eq.records[k] = r) :
    modifyRecord k f x = { x with eq := { x.eq with
      records := .ofFn fun j => if j = k then r else x.eq.records[j] } } := by
  rw [modifyRecord, modifyVec_ofFn, h]

/-- R79, R84, R86: a speaker that takes a slot. -/
theorem startFade_ofFn (x : Node) (k : Fin 24) (i : Fin 8) (s : SetRef) :
    startFade k i s x = { x with eq := { x.eq with
      slots := .ofFn (fun j => if j = i then
        some { speaker := k, length := x.tables.nodeEntry.crossfadeLength, count := 0 } else x.eq.slots[j])
      records := .ofFn (fun j => if j = k then
        { x.eq.records[k] with phase := .fading s none, incoming := .replicate 8 {} } else x.eq.records[j]) } } := by
  rw [startFade, modifyRecord_ofFn rfl, putSlot, putVec_ofFn, zeroChain]

/-- R79: a speaker that joins the wait queue. -/
theorem joinQueue_eq (x : Node) (k : Fin 24) (s : SetRef) :
    joinQueue k s x = { x with
      events := x.events ||| 0x800#13
      eq := { x.eq with
        waiting := x.eq.waiting ++ [k]
        records := .ofFn (fun j => if j = k then { x.eq.records[k] with phase := .waiting s } else x.eq.records[j]) } } := by
  have hbit : eventBit .crossfadeWait = 0x800#13 := rfl
  rw [joinQueue, raise, modifyRecord_ofFn rfl, hbit]

/-- R75: the entry of the band, of band 0 for a speaker that is not band-linked. -/
def bandEntry (r : Speaker) (band : Fin 4) : SetRef := r.bandSets[if r.bandLinked then band else 0]

theorem desiredSet_eq (x : Node) (k : Fin 24) : desiredSet x k = bandEntry x.tables.speakers[k] x.tracker.band := by
  rw [desiredSet, bandEntry]
  split <;> rfl

/-- R79: the free slot of the lowest number. -/
theorem freeSlot_first {x : Node} {i : Fin 8} (hi : x.eq.slots[i] = none) (hbefore : ∀ j, j < i → x.eq.slots[j] ≠ none) :
    freeSlot x = some i := by
  refine List.find?_eq_some_iff_getElem.mpr ⟨by rw [hi]; rfl, i.val, by simp, by simp, fun j hj => ?_⟩
  have hheld := hbefore ⟨j, hj.trans i.isLt⟩ hj
  rw [List.getElem_finRange]
  cases hslot : x.eq.slots[(⟨j, hj.trans i.isLt⟩ : Fin 8)] with
  | none => exact absurd hslot hheld
  | some g => exact congrArg (fun o => !Option.isNone o) hslot

theorem freeSlot_full {x : Node} (h : ∀ i : Fin 8, x.eq.slots[i] ≠ none) : freeSlot x = none := by
  cases hf : freeSlot x with
  | none => rfl
  | some i => exact absurd (ownerOf_eq_none.mp (freeSlot_some hf)) (h i)

section
variable {x : Node} {k : Fin 24} {s : SetRef}

theorem request_atOnce (h : x.tables.speakers[k].enabled = false ∨ x.control.node ≠ .quiet ∧ x.control.node ≠ .active) :
    request k x = requestAtOnce k (desiredSet x k) x := by
  rw [request, if_neg]
  rw [Bool.and_eq_true, audioRuns_iff, not_and_or, not_or, Bool.not_eq_true]
  exact h

theorem request_byState (he : x.tables.speakers[k].enabled = true) (hs : x.control.node = .quiet ∨ x.control.node = .active) :
    request k x = requestByState k (desiredSet x k) x := by
  rw [request, if_pos]
  rw [Bool.and_eq_true, audioRuns_iff]
  exact ⟨he, hs⟩

theorem requestByState_same (hp : x.eq.records[k].phase = .idle) (hs : s = x.eq.records[k].current) :
    requestByState k s x = x := by
  simp only [requestByState, hp, if_pos hs]

theorem requestByState_starts {i : Fin 8} (hp : x.eq.records[k].phase = .idle) (hs : s ≠ x.eq.records[k].current)
    (hi : freeSlot x = some i) : requestByState k s x = startFade k i s x := by
  simp only [requestByState, hp, if_neg hs, hi]

theorem requestByState_joins (hp : x.eq.records[k].phase = .idle) (hs : s ≠ x.eq.records[k].current)
    (hi : freeSlot x = none) : requestByState k s x = joinQueue k s x := by
  simp only [requestByState, hp, if_neg hs, hi]

theorem requestByState_leaves {w : SetRef} (hp : x.eq.records[k].phase = .waiting w)
    (hs : s = x.eq.records[k].current) : requestByState k s x = leaveQueue k x := by
  simp only [requestByState, hp, if_pos hs]

theorem requestByState_requeues {w : SetRef} (hp : x.eq.records[k].phase = .waiting w)
    (hs : s ≠ x.eq.records[k].current) :
    requestByState k s x = modifyRecord k (fun r => { r with phase := .waiting s }) x := by
  simp only [requestByState, hp, if_neg hs]

theorem requestByState_pends {t : SetRef} {p : Option SetRef} (hp : x.eq.records[k].phase = .fading t p) :
    requestByState k s x =
      modifyRecord k (fun r => { r with phase := .fading t (if s = t then none else some s) }) x := by
  simp only [requestByState, hp]

end

/-! ### EQ_SELECT -/

/-- R76: a speaker with the named band entries, those of band b or all of 0xFF, replaced. -/
def banded (band : Byte) (s : SetRef) (r : Speaker) : Speaker :=
  { r with bandSets := .ofFn fun b => if band = 0xFF ∨ band.toNat = b.val then s else r.bandSets[b] }

theorem bandOf_legal {band : Byte} (h : band.toNat ≤ 3 ∨ band = 0xFF) (s : SetRef) :
    ∃ b, bandOf band = some b ∧ setBandEntry b s = banded band s := by
  rcases h with h | rfl
  · have hne : band ≠ 0xFF := by rintro rfl; simp at h
    refine ⟨some ⟨band.toNat, by omega⟩, optIndexOf_index (by omega), funext fun r => ?_⟩
    simp only [setBandEntry, banded, putVec_ofFn, hne, false_or, Fin.ext_iff, eq_comm (a := band.toNat)]
  · refine ⟨none, rfl, funext fun r => ?_⟩
    have hall : (Vector.replicate 4 s) = .ofFn fun _ => s := by
      refine Vector.ext fun j hj => ?_
      rw [Vector.getElem_replicate, Vector.getElem_ofFn]
    simp only [setBandEntry, banded, true_or, if_true, hall]

theorem bandOf_illegal {band : Byte} (h : 3 < band.toNat) (hne : band ≠ 0xFF) : bandOf band = none := by
  rw [bandOf, optIndexOf, dif_neg (by omega), if_neg hne]

theorem setRefOf_illegal {set : Byte} (h : 47 < set.toNat) (hne : set ≠ 0xFF) : setRefOf set = none := by
  rw [setRefOf, dif_neg (by omega), if_neg hne]

/-- R76: one named speaker's write and request. -/
def selectBanded (band : Byte) (s : SetRef) (k : Fin 24) (x : Node) : Node :=
  request k { x with tables := { x.tables with
    speakers := .ofFn fun j => if j = k then banded band s x.tables.speakers[k] else x.tables.speakers[j] } }

theorem selectSpeaker_eq {band : Byte} {s : SetRef} {b : Option (Fin 4)} (h : setBandEntry b s = banded band s)
    (k : Fin 24) (x : Node) : selectSpeaker b s k x = selectBanded band s k x := by
  rw [selectSpeaker, selectBanded, setTables, h, modifyVec_ofFn]

theorem selectSpeakers_filter {band : Byte} {s : SetRef} {b : Option (Fin 4)} (h : setBandEntry b s = banded band s)
    (c : Fin 24 → Bool) : ∀ (ks : List (Fin 24)) (x : Node), selectSpeakers b s (ks.filter c) x =
      ks.foldl (fun x k => if c k then selectBanded band s k x else x) x
  | [], _ => rfl
  | k :: ks, x => by
    rw [List.foldl_cons]
    by_cases hk : c k = true
    · rw [List.filter_cons_of_pos hk, selectSpeakers, if_pos hk, selectSpeaker_eq h, selectSpeakers_filter h]
    · rw [List.filter_cons_of_neg hk, if_neg hk, selectSpeakers_filter h]

section
variable {m2 m1 m0 band set : Byte} {x : Node}

theorem carryEqSelect_refuses (h : 3 < band.toNat ∧ band ≠ 0xFF ∨ 47 < set.toNat ∧ set ≠ 0xFF) :
    carryEqSelect [m2, m1, m0, band, set] x = refuse x := by
  rcases h with ⟨hband, hne⟩ | ⟨hset, hne⟩
  · simp only [carryEqSelect, bandOf_illegal hband hne]
  · simp only [carryEqSelect, setRefOf_illegal hset hne]
    split
    · contradiction
    · rfl

theorem carryEqSelect_selects {s : SetRef} {mask : Nat} (hmask : mask = 65536 * m2.toNat + 256 * m1.toNat + m0.toNat)
    (hband : band.toNat ≤ 3 ∨ band = 0xFF) (hset : set = setCode s) :
    carryEqSelect [m2, m1, m0, band, set] x =
      (List.finRange 24).foldl (fun x k => if mask.testBit k.val then selectBanded band s k x else x) x := by
  obtain ⟨b, hb, hwrite⟩ := bandOf_legal hband s
  simp only [carryEqSelect, hb, (setRefOf_eq_some set s).mpr hset, unsignedOf_three, ← hmask, namedSpeakers, maskBit,
    selectSpeakers_filter hwrite]

end

/-- The node in which each of some speakers has its band entries written and its desired set current. -/
def settledOn (band : Byte) (s : SetRef) (named : Fin 24 → Bool) (x : Node) : Node :=
  { x with
    tables := { x.tables with
      speakers := .ofFn fun j =>
      if named j then banded band s x.tables.speakers[j] else x.tables.speakers[j] }
    eq := { x.eq with
      records := .ofFn fun j =>
      if named j then
        { x.eq.records[j] with
          current := bandEntry (banded band s x.tables.speakers[j]) x.tracker.band }
      else x.eq.records[j] } }

section
variable {band : Byte} {s : SetRef} {named : Fin 24 → Bool} {x : Node} {k : Fin 24}

theorem settledOn_speakers (hk : named k = false) :
    (Vector.ofFn fun j => if j = k then banded band s (settledOn band s named x).tables.speakers[k]
      else (settledOn band s named x).tables.speakers[j]) =
    (settledOn band s (fun j => decide (j = k) || named j) x).tables.speakers := by
  simp only [settledOn, ofFn_at, hk, Bool.false_eq_true, if_false]
  refine congrArg Vector.ofFn (funext fun j => ?_)
  by_cases hj : j = k
  · subst hj
    simp only [if_true, decide_true, Bool.true_or]
  · simp only [if_neg hj, decide_eq_false hj, Bool.false_or]

theorem settledOn_records (hk : named k = false) :
    (Vector.ofFn fun j => if j = k then
        { (settledOn band s named x).eq.records[k] with
          current := bandEntry (banded band s x.tables.speakers[k]) x.tracker.band }
      else (settledOn band s named x).eq.records[j]) =
    (settledOn band s (fun j => decide (j = k) || named j) x).eq.records := by
  simp only [settledOn, ofFn_at, hk, Bool.false_eq_true, if_false]
  refine congrArg Vector.ofFn (funext fun j => ?_)
  by_cases hj : j = k
  · subst hj
    simp only [if_true, decide_true, Bool.true_or]
  · simp only [if_neg hj, decide_eq_false hj, Bool.false_or]

/-- R90: a request in HALTED, on a node whose speaker table is as given. -/
theorem request_halted {y : Node} {v : Vector Speaker 24} {r : Speaker} (hs : y.control.node = .halted) (hv : v[k] = r) :
    request k { y with tables := { y.tables with speakers := v } } = { y with
      tables := { y.tables with speakers := v }
      eq := { y.eq with
        records := .ofFn fun j => if j = k then
          { y.eq.records[k] with current := bandEntry r y.tracker.band }
        else y.eq.records[j] } } := by
  subst hv
  rw [request_atOnce (.inr ⟨by rw [hs]; decide, by rw [hs]; decide⟩), requestAtOnce, modifyRecord_ofFn rfl,
    desiredSet_eq]

/-- In HALTED one more named speaker is written and settled. -/
theorem selectBanded_settledOn (hs : x.control.node = .halted) (hk : named k = false) :
    selectBanded band s k (settledOn band s named x) = settledOn band s (fun j => decide (j = k) || named j) x := by
  have hwritten : (settledOn band s (fun j => decide (j = k) || named j) x).tables.speakers[k] =
      banded band s x.tables.speakers[k] := by
    rw [settledOn, ofFn_at, decide_eq_true rfl, Bool.true_or, if_pos rfl]
  have hhalted : (settledOn band s named x).control.node = .halted := by rw [settledOn]; exact hs
  have htracker : (settledOn band s named x).tracker = x.tracker := by rw [settledOn]
  rw [selectBanded, settledOn_speakers hk, request_halted hhalted hwritten, htracker, settledOn_records hk]
  simp only [settledOn]

end

theorem selectSpeakers_settledOn {band : Byte} {s : SetRef} {b : Option (Fin 4)} {x : Node}
    (h : setBandEntry b s = banded band s) (hs : x.control.node = .halted) :
    ∀ (ks : List (Fin 24)) (named : Fin 24 → Bool), ks.Nodup → (∀ k ∈ ks, named k = false) →
      selectSpeakers b s ks (settledOn band s named x) =
        settledOn band s (fun j => decide (j ∈ ks) || named j) x
  | [], named, _, _ => by simp only [selectSpeakers, List.not_mem_nil, decide_false, Bool.false_or]
  | k :: ks, named, hnodup, hfresh => by
    obtain ⟨hout, hrest⟩ := List.nodup_cons.mp hnodup
    obtain ⟨hk, hks⟩ := List.forall_mem_cons.mp hfresh
    have hnext : ∀ j ∈ ks, (decide (j = k) || named j) = false := fun j hj => by
      rw [hks j hj, Bool.or_false, decide_eq_false_iff_not]
      rintro rfl
      exact hout hj
    rw [selectSpeakers, selectSpeaker_eq h, selectBanded_settledOn hs hk, selectSpeakers_settledOn h hs ks _ hrest hnext]
    congr 1
    funext j
    rw [← Bool.or_assoc, ← Bool.decide_or]
    simp only [List.mem_cons, or_comm]

theorem settledOn_none (band : Byte) (s : SetRef) (x : Node) : settledOn band s (fun _ => false) x = x := by
  have hspeakers : (Vector.ofFn fun j : Fin 24 => x.tables.speakers[j]) = x.tables.speakers := Vector.ofFn_getElem
  have hrecords : (Vector.ofFn fun j : Fin 24 => x.eq.records[j]) = x.eq.records := Vector.ofFn_getElem
  simp only [settledOn, Bool.false_eq_true, if_false, hspeakers, hrecords]

/-- Settles O55, by the EQ state of the speaker that requests. -/
theorem desiredSetRequestsFollowTheEqState : Obligations.DesiredSetRequestsFollowTheEqState := by
  unfold Obligations.DesiredSetRequestsFollowTheEqState
  refine ⟨fun n q h m2 m1 m0 band set mask s select ha hmask hband hset hselect => ?_,
    fun x k r s hr hs => ⟨fun hout => ?_, fun he hstate => ?_⟩⟩
  · have hsame : select = selectBanded band s := funext fun k => funext fun x => hselect k x
    exact exec_writes (k := .eqSelect) (payload := [m2, m1, m0, band, set]) q ha (by simp) rfl rfl (by decide)
      (hsame ▸ carryEqSelect_selects hmask hband hset)
  · subst hr
    rw [request_atOnce hout, desiredSet_eq, bandEntry, ← hs, requestAtOnce, modifyRecord_ofFn rfl]
  · replace hs : s = desiredSet x k := hs.trans (desiredSet_eq x k).symm
    subst hr
    have hrequest := request_byState he hstate
    rw [← hs] at hrequest
    rw [hrequest]
    refine ⟨requestByState_same, fun i hp hne hi hbefore => ?_, fun hp hne hfull => ?_, fun w hp heq => ?_,
      fun w hp hne => ?_, fun t p hp => ?_⟩
    · rw [requestByState_starts hp hne (freeSlot_first hi hbefore), startFade_ofFn]
    · rw [requestByState_joins hp hne (freeSlot_full hfull), joinQueue_eq]
    · rw [requestByState_leaves hp heq, leaveQueue, modifyRecord_ofFn rfl]
    · rw [requestByState_requeues hp hne, modifyRecord_ofFn rfl]
    · rw [requestByState_pends hp, modifyRecord_ofFn rfl]

/-- Settles O54: in HALTED the named speakers settle one after another, each on its own. -/
theorem eqSelectWritesBandSets : Obligations.EqSelectWritesBandSets := by
  unfold Obligations.EqSelectWritesBandSets
  intro n q h m2 m1 m0 band set mask ha hmask
  have hexec {m : Node} := exec_writes (k := .eqSelect) (payload := [m2, m1, m0, band, set]) (m := m) q ha (by simp)
    rfl rfl (by decide)
  refine ⟨fun hbad => hexec ((carryEqSelect_refuses hbad).trans (refuse_lanesTaken .setting n)),
    fun s hs hband hset => ?_⟩
  refine ⟨settledOn band s (fun k => mask.testBit k.val) (lanesTaken .setting n), hexec ?_, ?_, fun k => ?_⟩
  · have hcode : set = setCode s := by
      rcases hset with ⟨rfl, rfl⟩ | ⟨e, he, rfl⟩
      · rfl
      · exact (setRefOf_eq_some set (.set e)).mp (by rw [setRefOf, dif_pos (he ▸ e.isLt)]; simp only [he])
    obtain ⟨b, hb, hwrite⟩ := bandOf_legal hband s
    have hfresh : ∀ k ∈ namedSpeakers mask, (fun _ : Fin 24 => false) k = false := fun _ _ => rfl
    have hmem (k : Fin 24) : (decide (k ∈ namedSpeakers mask) || false) = mask.testBit k.val := by
      simp [namedSpeakers, maskBit]
    have hselect := selectSpeakers_settledOn (x := lanesTaken .setting n) hwrite hs (namedSpeakers mask) _
      ((List.nodup_finRange 24).filter _) hfresh
    simp only [settledOn_none, hmem] at hselect
    show carryEqSelect [m2, m1, m0, band, set] (lanesTaken .setting n) = _
    simp only [carryEqSelect, hb, (setRefOf_eq_some set s).mpr hcode, unsignedOf_three, ← hmask, hselect]
  · rfl
  · have hspeaker : (settledOn band s (fun k => mask.testBit k.val) (lanesTaken .setting n)).tables.speakers[k] = _ :=
      ofFn_at k _
    have hrecord : (settledOn band s (fun k => mask.testBit k.val) (lanesTaken .setting n)).eq.records[k] = _ :=
      ofFn_at k _
    refine ⟨fun hk => ?_, fun hk => ?_⟩
    · rw [hrecord, if_neg (Bool.eq_false_iff.mp hk)]
      rfl
    · rw [hrecord, ← bandEntry, hspeaker, if_pos hk, if_pos hk]
      rfl

end Sys2Proof.Machine
end

section
/-! PROOFS. The write of one table element: its groups cut off, merged under the field mask, checked and written
(R158, R173, R174). -/

namespace Sys2Proof.Machine

/-! ### Groups under a field mask -/

/-- The groups that a mask names, merged into a record one after another. -/
def mergeMasked {α : Type} (merge : α → Nat → GroupValue → Option α) (m : Nat → Bool) :
    Nat → List GroupValue → α → Option α
  | _, [], r => some r
  | g, v :: vs, r => (if m g then merge r g v else some r).bind (mergeMasked merge m (g + 1) vs)

/-- Bytes of field groups, from mask bit `g` on, that a receiver cuts to given values where the mask names them. -/
inductive Cuts (mask : Nat) : Nat → List GroupShape → List (List Byte) → List GroupValue → Prop where
  | nil (g : Nat) : Cuts mask g [] [] []
  | cons {g : Nat} {s : GroupShape} {b : List Byte} {v : GroupValue} {shape : List GroupShape}
      {groups : List (List Byte)} {values : List GroupValue}
      (cut : mask.testBit g = true → ∀ rest, cutGroup s (b ++ rest) = some (v, rest))
      (more : Cuts mask (g + 1) shape groups values) : Cuts mask g (s :: shape) (b :: groups) (v :: values)

theorem Cuts.fixed {mask g k : Nat} {b : List Byte} {shape : List GroupShape} {groups : List (List Byte)}
    {values : List GroupValue} (hb : b.length = k) (more : Cuts mask (g + 1) shape groups values) :
    Cuts mask g (.fixed k :: shape) (b :: groups) (.bytes b :: values) := by
  refine .cons (fun _ rest => ?_) more
  subst hb
  simp only [cutGroup, cutBytes, List.length_append, Nat.le_add_right, if_true, List.take_left', List.drop_left']

/-- R174: such groups are cut off and merged as the mask names them. -/
theorem Cuts.merged {mask g : Nat} {shape : List GroupShape} {groups : List (List Byte)} {values : List GroupValue}
    (h : Cuts mask g shape groups values) :
    ∃ vs, (∀ rest, cutElement mask g shape (joinGroups mask g groups ++ rest) = some (vs, rest)) ∧
      ∀ {α : Type} (merge : α → Nat → GroupValue → Option α) (r : α),
        mergeGroups merge vs r = mergeMasked merge mask.testBit g values r := by
  induction h with
  | nil g => exact ⟨[], fun _ => rfl, fun _ _ => rfl⟩
  | @cons g s b v shape groups values cut more ih =>
    obtain ⟨vs, hcut, hmerge⟩ := ih
    by_cases hg : mask.testBit g = true
    · refine ⟨(g, v) :: vs, fun rest => ?_, fun merge r => ?_⟩
      · simp only [cutElement, joinGroups, maskBit, hg, if_true, List.append_assoc, cut hg, hcut]
      · simp only [mergeGroups, mergeMasked, hg, if_true]
        cases merge r g v with
        | none => rfl
        | some r' => exact hmerge merge r'
    · refine ⟨vs, fun rest => ?_, fun merge r => ?_⟩
      · simp only [cutElement, joinGroups, maskBit, hg, Bool.false_eq_true, if_false, List.nil_append, hcut]
      · simp only [mergeMasked, hg, Bool.false_eq_true, if_false, Option.bind_some, hmerge]

section
variable {α β : Type} {merge : α → Nat → GroupValue → Option α} {m : Nat → Bool} {g : Nat} {v : GroupValue}
  {vs : List GroupValue} {r r' : α} {x₀ : β} {P : β → Prop}

theorem mergeMasked_nil : mergeMasked merge m g [] r = some r' ↔ r = r' := Option.some_inj

/-- A group that sets one field to what its bytes read as. -/
theorem mergeMasked_reads {o : Option β} {Q : β → Prop} (set : α → β → α) (ho : ∀ x, o = some x ↔ Q x)
    (hmerge : merge r g v = o.map (set r)) (hstands : set r x₀ = r)
    (hrest : ∀ x, mergeMasked merge m (g + 1) vs (set r x) = some r' ↔ P x) :
    mergeMasked merge m g (v :: vs) r = some r' ↔ ∃ x, (if m g then Q x else x = x₀) ∧ P x := by
  rw [mergeMasked]
  by_cases hg : m g = true
  · simp only [hg, if_true, hmerge, Option.bind_eq_some_iff, Option.map_eq_some_iff, ho, ← hrest]
    exact ⟨fun ⟨_, ⟨x, hx, hset⟩, hr⟩ => ⟨x, hx, hset ▸ hr⟩, fun ⟨x, hx, hr⟩ => ⟨_, ⟨x, hx, rfl⟩, hr⟩⟩
  · simp only [hg, Bool.false_eq_true, if_false, Option.bind_some, exists_eq_left, ← hrest, hstands]

/-- A group that sets one field to a value, whatever its bytes. -/
theorem mergeMasked_sets {y : β} (set : α → β → α) (hmerge : merge r g v = some (set r y)) (hstands : set r x₀ = r)
    (hrest : ∀ x, mergeMasked merge m (g + 1) vs (set r x) = some r' ↔ P x) :
    mergeMasked merge m g (v :: vs) r = some r' ↔ ∃ x, x = (if m g then y else x₀) ∧ P x := by
  rw [mergeMasked, exists_eq_left, ← hrest]
  by_cases hg : m g = true
  · simp only [hg, if_true, hmerge, Option.bind_some]
  · simp only [hg, Bool.false_eq_true, if_false, Option.bind_some, hstands]

end

/-! ### The element is written or refused -/

section
variable {α : Type} {k : Nat} {idx : Nat} {j : Fin k} {stored : Fin k → α} {merge : α → Nat → GroupValue → Option α}
  {vs : List (Nat × GroupValue)} {ok : Fin k → α → Bool} {put : Fin k → α → Node → Node} {n : Node} {r : α}

theorem writeAt_writes (hj : idx = j.val) (hmerge : mergeGroups merge vs (stored j) = some r) (hok : ok j r = true) :
    writeAt k idx stored merge vs ok put n = put j r n := by
  subst hj
  simp only [writeAt, j.isLt, dif_pos, Fin.eta, hmerge, hok, if_true]

theorem writeAt_refuses (hj : idx = j.val)
    (hnone : ∀ r, ¬ (mergeGroups merge vs (stored j) = some r ∧ ok j r = true)) :
    writeAt k idx stored merge vs ok put n = refuse n := by
  subst hj
  obtain h | ⟨_, r, hr, hok, _⟩ := writeAt_cases k j.val stored merge vs ok put n
  · exact h
  · exact absurd ⟨hr, hok⟩ (hnone r)

end

/-- R158: a TABLE_WRITE of one element cuts its groups and writes them. -/
theorem exec_writeOne {n : Node} {h : MsgHeader} {id i hi lo : Byte} {t : TableId} {groups : List (List Byte)}
    {values : List GroupValue} (q : List Instr) (ha : arrivesAtBoundary .tableWrite h n) (ht : tableOf id = some t)
    (hcuts : Cuts (256 * hi.toNat + lo.toNat) 0 (tableShape t) groups values)
    (hlen : (selected (256 * hi.toNat + lo.toNat) groups).length ≤ 122) :
    ∃ vs, exec (writeOne h id i hi lo groups) ⟨n, q⟩ =
        .next ⟨writeElement t (256 * hi.toNat + lo.toNat) i.toNat vs (lanesTaken .setting n), q⟩ ∧
      ∀ {α : Type} (merge : α → Nat → GroupValue → Option α) (r : α),
        mergeGroups merge vs r = mergeMasked merge (256 * hi.toNat + lo.toNat).testBit 0 values r := by
  obtain ⟨vs, hcut, hmerge⟩ := hcuts.merged
  refine ⟨vs, ?_, hmerge⟩
  rw [writeOne, exec_tableWrite q ha hlen, carryTableWrite_table ht, show (1 : Byte).toNat = 0 + 1 from rfl,
    ← List.append_nil (selected _ groups), selected_eq, writeElements, hcut]
  rfl

/-- A written element: it reads as the record that its merge and its check pass, or as none. -/
theorem writesOrRefuses_of {α : Type} {n : Node} {q : List Instr} {c : Instr} {t : TableId} {mask : Nat} {i : Byte}
    {vs : List (Nat × GroupValue)} {m : Nat → Bool} {values : List GroupValue} {k : Nat} (j : Fin k) {stored : Fin k → α}
    {merge : α → Nat → GroupValue → Option α} {ok : Fin k → α → Bool} {put : Fin k → α → Node → Node}
    {reads : α → Prop} {written : α → Node}
    (hexec : exec c ⟨n, q⟩ = .next ⟨writeElement t mask i.toNat vs (lanesTaken .setting n), q⟩)
    (hvs : mergeGroups merge vs (stored j) = mergeMasked merge m 0 values (stored j))
    (helement : writeElement t mask i.toNat vs (lanesTaken .setting n) =
      writeAt k i.toNat stored merge vs ok put (lanesTaken .setting n))
    (hj : i.toNat = j.val)
    (hreads : ∀ r, mergeMasked merge m 0 values (stored j) = some r ∧ ok j r = true ↔ reads r)
    (hput : ∀ r, put j r (lanesTaken .setting n) = written r) : writesOrRefuses n q c reads written := by
  rw [← hvs] at hreads
  refine ⟨fun r hr => ?_, fun hnone => ?_⟩
  · obtain ⟨hmerge, hok⟩ := (hreads r).mpr hr
    rw [hexec, helement, writeAt_writes hj hmerge hok, hput]
  · rw [hexec, helement, writeAt_refuses hj fun r hr => hnone r ((hreads r).mp hr), refuse_lanesTaken]
    rfl

theorem joinGroups_length_le (mask : Nat) : ∀ (g : Nat) (groups : List (List Byte)),
    (joinGroups mask g groups).length ≤ groups.flatten.length
  | _, [] => le_rfl
  | g, b :: groups => by
    have hhead : (if maskBit mask g then b else []).length ≤ b.length := by
      split
      · exact le_rfl
      · exact Nat.zero_le _
    rw [joinGroups, List.flatten_cons, List.length_append, List.length_append]
    exact Nat.add_le_add hhead (joinGroups_length_le mask (g + 1) groups)

/-- A selection holds no more bytes than its groups. -/
theorem selected_length_le {mask k : Nat} {groups : List (List Byte)} (h : groups.flatten.length ≤ k) :
    (selected mask groups).length ≤ k :=
  selected_eq mask groups ▸ (joinGroups_length_le mask 0 groups).trans h

/-- A table without a check of its own. -/
theorem noCheck_iff {α β : Type} {a : α} {b : β} {p : Prop} : p ∧ noCheck a b = true ↔ p := and_iff_left rfl

end Sys2Proof.Machine
end

section
/-! PROOFS. TABLE_WRITE of the source, zone, program-zone, duck, presence, volume and balance curve tables (R2, R10, R15,
R22 to R24, R26, R117). -/

namespace Sys2Proof.Machine

section
variable {m : Nat → Bool}

theorem mergeMasked_source {old r : Source} {enabled slot program : Byte} :
    mergeMasked mergeSource m 0 [.bytes [enabled], .bytes [slot], .bytes [program]] old = some r ↔
      (if m 0 then enabled = flagCode r.enabled else r.enabled = old.enabled) ∧
      (if m 1 then slot = indexCode r.slot else r.slot = old.slot) ∧
      (if m 2 then program = indexCode r.program else r.program = old.program) := by
  refine Iff.trans
    (mergeMasked_reads (fun r x => { r with enabled := x }) (flagOf_eq_some enabled) rfl rfl fun _ =>
    mergeMasked_reads (fun r x => { r with slot := x }) (indexOf_eq_some (by decide) slot) rfl rfl fun _ =>
    mergeMasked_reads (fun r x => { r with program := x }) (indexOf_eq_some (by decide) program) rfl rfl fun _ =>
    mergeMasked_nil) ⟨?_, ?_⟩
  · rintro ⟨_, h0, _, h1, _, h2, rfl⟩
    exact ⟨h0, h1, h2⟩
  · rintro ⟨h0, h1, h2⟩
    exact ⟨_, h0, _, h1, _, h2, rfl⟩

theorem mergeMasked_zone {old r : Zone}
    {ceilHi ceilLo down up slew curve guardOn attack floorHi floorLo holdHi holdLo recover : Byte} :
    mergeMasked mergeZone m 0 [.bytes [ceilHi, ceilLo], .bytes [down], .bytes [up], .bytes [slew], .bytes [curve],
        .bytes [guardOn], .bytes [attack], .bytes [floorHi, floorLo], .bytes [holdHi, holdLo], .bytes [recover]] old =
      some r ↔
      r.ceiling = (if m 0 then max (-480) (min 0 (ceilHi ++ ceilLo).toInt) else old.ceiling) ∧
      r.downSlew = (if m 1 then max 1 (min 48 down.toNat) else old.downSlew) ∧
      r.upSlew = (if m 2 then max 1 (min 48 up.toNat) else old.upSlew) ∧
      r.speakerSlew = (if m 3 then max 1 (min 48 slew.toNat) else old.speakerSlew) ∧
      (if m 4 then curve = indexCode r.curve else r.curve = old.curve) ∧
      (if m 5 then guardOn = flagCode r.guardOn else r.guardOn = old.guardOn) ∧
      r.attack = (if m 6 then max 1 (min 24 attack.toNat) else old.attack) ∧
      r.floor = (if m 7 then max (-192) (min (-1) (floorHi ++ floorLo).toInt) else old.floor) ∧
      r.hold = (if m 8 then max 1 (min 4095 (256 * holdHi.toNat + holdLo.toNat)) else old.hold) ∧
      r.recover = (if m 9 then max 1 recover.toNat else old.recover) := by
  have hrecover : min 255 recover.toNat = recover.toNat := min_eq_right (by omega)
  rw [← signedOf_two, ← signedOf_two, ← unsignedOf_two, ← hrecover]
  refine Iff.trans
    (mergeMasked_sets (fun r x => { r with ceiling := x }) rfl rfl fun _ =>
    mergeMasked_sets (fun r x => { r with downSlew := x }) rfl rfl fun _ =>
    mergeMasked_sets (fun r x => { r with upSlew := x }) rfl rfl fun _ =>
    mergeMasked_sets (fun r x => { r with speakerSlew := x }) rfl rfl fun _ =>
    mergeMasked_reads (fun r x => { r with curve := x }) (indexOf_eq_some (by decide) curve) rfl rfl fun _ =>
    mergeMasked_reads (fun r x => { r with guardOn := x }) (flagOf_eq_some guardOn) rfl rfl fun _ =>
    mergeMasked_sets (fun r x => { r with attack := x }) rfl rfl fun _ =>
    mergeMasked_sets (fun r x => { r with floor := x }) rfl rfl fun _ =>
    mergeMasked_sets (fun r x => { r with hold := x }) rfl rfl fun _ =>
    mergeMasked_sets (fun r x => { r with recover := x }) rfl rfl fun _ =>
    mergeMasked_nil) ⟨?_, ?_⟩
  · rintro ⟨_, h0, _, h1, _, h2, _, h3, _, h4, _, h5, _, h6, _, h7, _, h8, _, h9, rfl⟩
    exact ⟨h0, h1, h2, h3, h4, h5, h6, h7, h8, h9⟩
  · rintro ⟨h0, h1, h2, h3, h4, h5, h6, h7, h8, h9⟩
    exact ⟨_, h0, _, h1, _, h2, _, h3, _, h4, _, h5, _, h6, _, h7, _, h8, _, h9, rfl⟩

theorem mergeMasked_pair {old r : Pair} {follow ramp : Byte} :
    mergeMasked mergePair m 0 [.bytes [follow], .bytes [ramp]] old = some r ↔
      (if m 0 then follow = flagCode r.follow else r.follow = old.follow) ∧
      (if m 1 then ramp = optCode r.ramp else r.ramp = old.ramp) := by
  refine Iff.trans
    (mergeMasked_reads (fun r x => { r with follow := x }) (flagOf_eq_some follow) rfl rfl fun _ =>
    mergeMasked_reads (fun r x => { r with ramp := x }) (optIndexOf_eq_some (by decide) ramp) rfl rfl fun _ =>
    mergeMasked_nil) ⟨?_, ?_⟩
  · rintro ⟨_, h0, _, h1, rfl⟩
    exact ⟨h0, h1⟩
  · rintro ⟨h0, h1⟩
    exact ⟨_, h0, _, h1, rfl⟩

theorem mergeMasked_presence {old r : PresenceEntry} {t2 t1 t0 holdHi holdLo : Byte} :
    mergeMasked mergePresence m 0 [.bytes [t2, t1, t0], .bytes [holdHi, holdLo]] old = some r ↔
      r.threshold = (if m 0 then min 8388608 (65536 * t2.toNat + 256 * t1.toNat + t0.toNat) else old.threshold) ∧
      r.hold = (if m 1 then max 1 (min 4095 (256 * holdHi.toNat + holdLo.toNat)) else old.hold) := by
  rw [← unsignedOf_three, ← unsignedOf_two, ← clampNat_zero]
  refine Iff.trans
    (mergeMasked_sets (fun r x => { r with threshold := x }) rfl rfl fun _ =>
    mergeMasked_sets (fun r x => { r with hold := x }) rfl rfl fun _ => mergeMasked_nil) ⟨?_, ?_⟩
  · rintro ⟨_, h0, _, h1, rfl⟩
    exact ⟨h0, h1⟩
  · rintro ⟨h0, h1⟩
    exact ⟨_, h0, _, h1, rfl⟩

theorem mergeMasked_code {old r : Int} {hi lo : Byte} :
    mergeMasked mergeCode m 0 [.bytes [hi, lo]] old = some r ↔
      r = if m 0 then max (-960) (min 0 (hi ++ lo).toInt) else old := by
  rw [← signedOf_two]
  refine Iff.trans (mergeMasked_sets (fun _ x => x) rfl rfl fun _ => mergeMasked_nil) ⟨?_, ?_⟩
  · rintro ⟨_, h0, rfl⟩
    exact h0
  · rintro h0
    exact ⟨_, h0, rfl⟩

end

/-- R117: a zone write and the guard state that it leaves. -/
theorem writeZone_eq {n : Node} {j : Fin 4} {old r : Zone} (hold : old = n.tables.zones[j]) :
    writeZone j r n = { n with
      tables := { n.tables with
        zones := .ofFn fun x => if x = j then r else n.tables.zones[x] }
      guards := .ofFn fun x =>
        if x ≠ j then n.guards[x]
        else if old.guardOn ∧ ¬r.guardOn then { code := 0, hold := 0, recover := 0 }
        else { n.guards[x] with code := max n.guards[x].code r.floor } } := by
  have hguards : modifyVec j (guardWritten old r) n.guards = .ofFn fun x =>
      if x ≠ j then n.guards[x]
      else if old.guardOn ∧ ¬r.guardOn then { code := 0, hold := 0, recover := 0 }
      else { n.guards[x] with code := max n.guards[x].code r.floor } := by
    rw [modifyVec_ofFn]
    refine congrArg Vector.ofFn (funext fun x => ?_)
    by_cases hx : x = j
    · subst hx
      simp only [guardWritten, Bool.and_eq_true, Bool.not_eq_true', ne_eq, not_true_eq_false, if_true, if_false,
        Bool.not_eq_true]
    · simp only [ne_eq, hx, not_false_eq_true, if_true, if_false]
  subst hold
  rw [writeZone, hguards]
  rfl

/-- Settles O52, table by table. -/
theorem tableWriteWritesLevelTables : Obligations.TableWriteWritesLevelTables := by
  unfold Obligations.TableWriteWritesLevelTables
  intro n q h i hi lo m ha hm
  obtain rfl : m = (256 * hi.toNat + lo.toNat).testBit := funext hm
  refine ⟨fun j old enabled slot program hj hold => ?_,
    fun j old ceilHi ceilLo down up slew curve guardOn attack floorHi floorLo holdHi holdLo recover hj hold => ?_,
    fun j old follow ramp hj hold => ?_, fun j old t2 t1 t0 holdHi holdLo hj hold => ?_,
    fun codeHi codeLo merged hmerged => ⟨fun j hj => ⟨?_, ?_⟩, fun j hj => ?_⟩⟩
  · obtain ⟨vs, hexec, hvs⟩ := exec_writeOne (id := 1) (groups := [[enabled], [slot], [program]]) q ha rfl
      (.fixed rfl <| .fixed rfl <| .fixed rfl <| .nil 3) (selected_length_le (by simp))
    subst hold
    exact writesOrRefuses_of j (stored := fun i => n.tables.sources[i]) (merge := mergeSource) (ok := noCheck)
      (put := fun i r => setTables fun t => { t with sources := putVec i r t.sources }) hexec (hvs _ _) rfl hj
      (fun r => noCheck_iff.trans mergeMasked_source) fun r => rfl
  · obtain ⟨vs, hexec, hvs⟩ := exec_writeOne (id := 3) (groups := [[ceilHi, ceilLo], [down], [up], [slew], [curve],
        [guardOn], [attack], [floorHi, floorLo], [holdHi, holdLo], [recover]]) q ha rfl
      (.fixed rfl <| .fixed rfl <| .fixed rfl <| .fixed rfl <| .fixed rfl <| .fixed rfl <| .fixed rfl <| .fixed rfl <|
        .fixed rfl <| .fixed rfl <| .nil 10) (selected_length_le (by simp))
    have hput (r : Zone) := writeZone_eq (n := lanesTaken .setting n) (r := r) hold
    subst hold
    exact writesOrRefuses_of j (stored := fun i => n.tables.zones[i]) (merge := mergeZone) (ok := noCheck)
      (put := writeZone) hexec (hvs _ _) rfl hj (fun r => noCheck_iff.trans mergeMasked_zone) hput
  · obtain ⟨vs, hexec, hvs⟩ := exec_writeOne (id := 4) (groups := [[follow], [ramp]]) q ha rfl
      (.fixed rfl <| .fixed rfl <| .nil 2) (selected_length_le (by simp))
    subst hold
    exact writesOrRefuses_of j (stored := fun i => n.tables.pairs[i]) (merge := mergePair) (ok := noCheck)
      (put := fun i r => setTables fun t => { t with pairs := putVec i r t.pairs }) hexec (hvs _ _) rfl hj
      (fun r => noCheck_iff.trans mergeMasked_pair) fun r => rfl
  · obtain ⟨vs, hexec, hvs⟩ := exec_writeOne (id := 6) (groups := [[t2, t1, t0], [holdHi, holdLo]]) q ha rfl
      (.fixed rfl <| .fixed rfl <| .nil 2) (selected_length_le (by simp))
    subst hold
    exact writesOrRefuses_of j (stored := fun i => n.tables.presence[i]) (merge := mergePresence) (ok := noCheck)
      (put := fun i r => setTables fun t => { t with presence := putVec i r t.presence }) hexec (hvs _ _) rfl hj
      (fun r => noCheck_iff.trans mergeMasked_presence) fun r => rfl
  · obtain ⟨vs, hexec, hvs⟩ := exec_writeOne (id := 5) (groups := [[codeHi, codeLo]]) q ha rfl (.fixed rfl <| .nil 1)
      (selected_length_le (by simp))
    rw [hexec]
    refine congrArg (fun x => Host.Outcome.next (State.mk x q)) ?_
    exact writeAt_writes (stored := fun i => n.tables.duck[i]) (ok := noCheck) (n := lanesTaken .setting n)
      (put := fun i r => setTables fun t => { t with duck := putVec i r t.duck }) hj
      ((hvs _ _).trans (mergeMasked_code.mpr (hmerged _))) rfl
  · obtain ⟨vs, hexec, hvs⟩ := exec_writeOne (id := 7) (groups := [[codeHi, codeLo]]) q ha rfl (.fixed rfl <| .nil 1)
      (selected_length_le (by simp))
    rw [hexec]
    refine congrArg (fun x => Host.Outcome.next (State.mk x q)) ?_
    exact writeAt_writes (stored := fun i => n.tables.volume[i]) (ok := noCheck) (n := lanesTaken .setting n)
      (put := fun i r => setTables fun t => { t with volume := putVec i r t.volume }) hj
      ((hvs _ _).trans (mergeMasked_code.mpr (hmerged _))) rfl
  · obtain ⟨vs, hexec, hvs⟩ := exec_writeOne (id := 8) (groups := [[codeHi, codeLo]]) q ha rfl (.fixed rfl <| .nil 1)
      (selected_length_le (by simp))
    rw [hexec]
    refine congrArg (fun x => Host.Outcome.next (State.mk x q)) ?_
    exact writeAt_writes (stored := fun i => n.tables.balance[i]) (ok := noCheck) (n := lanesTaken .setting n)
      (put := fun i r => setTables fun t => { t with balance := putVec i r t.balance }) hj
      ((hvs _ _).trans (mergeMasked_code.mpr (hmerged _))) rfl

end Sys2Proof.Machine
end

section
/-! PROOFS. TABLE_WRITE of the speed settings, speed curve, EQ set, node and ramp tables (R46, R48, R71, R73, R87, R97,
R162). -/

namespace Sys2Proof.Machine

/-! ### List groups -/

/-- A group that a mask names is no longer than the selection. -/
theorem length_le_selected {mask p k : Nat} {b : List Byte} {groups : List (List Byte)}
    (hlen : (selected mask groups).length ≤ k) (hb : groups[p]? = some b) (hp : mask.testBit p = true) : b.length ≤ k := by
  have hjoin : ∀ (groups : List (List Byte)) (g p : Nat), groups[p]? = some b → mask.testBit (g + p) = true →
      b.length ≤ (joinGroups mask g groups).length := by
    intro groups
    induction groups with
    | nil => intro g p hb; cases hb
    | cons c groups ih =>
      intro g p hb hp
      rw [joinGroups, List.length_append]
      cases p with
      | zero =>
        obtain rfl : c = b := Option.some_inj.mp hb
        rw [maskBit, show mask.testBit g = true from hp, if_pos rfl]
        exact Nat.le_add_right _ _
      | succ p => exact (ih (g + 1) p hb (by rwa [Nat.add_right_comm])).trans (Nat.le_add_left _ _)
  exact (hjoin groups 0 p hb (by rwa [Nat.zero_add])).trans (selected_eq mask groups ▸ hlen)

theorem length_lt_counted {es : List (List Byte)} {size : Nat} (hsize : 0 < size) (hes : ∀ e ∈ es, e.length = size) :
    es.length < (counted es).length := by
  rw [counted, List.length_cons, List.length_flatten, Nat.lt_succ_iff, ← List.length_map (f := List.length)]
  refine List.length_le_sum_of_one_le _ fun k hk => ?_
  obtain ⟨e, he, rfl⟩ := List.mem_map.mp hk
  rw [hes e he]
  exact hsize

/-- A list group is cut by its count byte. -/
theorem Cuts.counted {α : Type} {mask g size : Nat} {l : List α} {entry : α → List Byte} {shape : List GroupShape}
    {groups : List (List Byte)} {values : List GroupValue} (hsize : 0 < size) (hentry : ∀ a, (entry a).length = size)
    (hlen : mask.testBit g = true → (Machine.counted (l.map entry)).length ≤ 122)
    (more : Cuts mask (g + 1) shape groups values) :
    Cuts mask g (.list size :: shape) (Machine.counted (l.map entry) :: groups) (.entries (l.map entry) :: values) := by
  have hes : ∀ e ∈ l.map entry, e.length = size := fun e he => by
    obtain ⟨a, _, rfl⟩ := List.mem_map.mp he
    exact hentry a
  exact .cons (fun hg => cutGroup_counted size _ hes
    ((length_lt_counted hsize hes).trans_le ((hlen hg).trans (by decide)))) more

theorem decodeAll_map {α β : Type} {f : List Byte → Option β} {encode : α → List Byte} {value : α → β}
    (h : ∀ a, f (encode a) = some (value a)) : ∀ l : List α, decodeAll f (l.map encode) = some (l.map value)
  | [] => rfl
  | a :: l => by simp only [List.map_cons, decodeAll, h, decodeAll_map h l]

/-! ### Entries of lists -/

theorem speedsRise_iff (l : List Breakpoint) : speedsRise l = true ↔ l.Pairwise fun x y => x.speed < y.speed := by
  have htrans : IsTrans Breakpoint fun x y => x.speed < y.speed := ⟨fun _ _ _ => lt_trans⟩
  rw [← List.isChain_iff_pairwise]
  induction l with
  | nil => exact iff_of_true rfl .nil
  | cons a l ih =>
    cases l with
    | nil => exact iff_of_true rfl (.singleton a)
    | cons b l =>
      rw [speedsRise, Bool.and_eq_true, decide_eq_true_eq, List.isChain_cons_cons]
      exact and_congr_right fun _ => ih

/-- R48: the breakpoint that an entry reads as. -/
def breakpointRead (p : BitVec 16 × Byte × Byte) : Breakpoint :=
  { speed := min 1200 p.1.toNat, lift := min 192 p.2.1.toNat, bass := min 96 p.2.2.toNat }

theorem pointsOf_eq_some (points : List (BitVec 16 × Byte × Byte)) (x : List Breakpoint) :
    pointsOf (points.map fun p => word16 p.1 ++ [p.2.1, p.2.2]) = some x ↔
      points.length ≤ 12 ∧ x.Pairwise (fun x y => x.speed < y.speed) ∧ x = points.map breakpointRead := by
  have hentry (p : BitVec 16 × Byte × Byte) : breakpointOf (word16 p.1 ++ [p.2.1, p.2.2]) = some (breakpointRead p) := by
    simp only [word16, List.cons_append, List.nil_append, breakpointOf, clampNat_zero, breakpointRead]
    rw [← word16, unsignedOf_word16]
  rw [pointsOf, decodeAll_map hentry, List.length_map]
  dsimp only
  by_cases hlen : points.length ≤ 12
  · rw [if_pos hlen, ← speedsRise_iff]
    constructor
    · intro h
      split at h
      · cases h
        exact ⟨hlen, ‹_›, rfl⟩
      · cases h
    · rintro ⟨_, hrise, rfl⟩
      rw [if_pos hrise]
  · rw [if_neg hlen]
    exact iff_of_false (by simp) fun h => hlen h.1

theorem sectionsOf_eq_some (sections x : List Section) :
    (if (sections.map fun s => word24 s.b0 ++ word24 s.b1 ++ word24 s.b2 ++ word24 s.a1 ++ word24 s.a2).length ≤ 8 then
      decodeAll sectionOf (sections.map fun s =>
        word24 s.b0 ++ word24 s.b1 ++ word24 s.b2 ++ word24 s.a1 ++ word24 s.a2) else none) = some x ↔
      sections.length ≤ 8 ∧ x = sections := by
  have hentry (s : Section) :
      sectionOf (word24 s.b0 ++ word24 s.b1 ++ word24 s.b2 ++ word24 s.a1 ++ word24 s.a2) = some s := by
    have hword (x : BitVec 24) : unsignedOf [x.extractLsb' 16 8, x.extractLsb' 8 8, x.extractLsb' 0 8] = x.toNat :=
      unsignedOf_word24 x
    simp only [word24, List.cons_append, List.nil_append, sectionOf, hword, BitVec.ofNat_toNat, BitVec.setWidth_eq]
  rw [decodeAll_map (value := id) hentry, List.length_map, List.map_id]
  split
  · exact ⟨fun h => ⟨‹_›, (Option.some_inj.mp h).symm⟩, fun h => congrArg some h.2.symm⟩
  · exact iff_of_false (by simp) fun h => absurd h.1 ‹_›

theorem segmentsOf_eq_some (segments : List (BitVec 16 × BitVec 16)) (x : List Segment) :
    (if (segments.map fun s => word16 s.1 ++ word16 s.2).length ≤ 16 then
      decodeAll segmentOf (segments.map fun s => word16 s.1 ++ word16 s.2) else none) = some x ↔
      segments.length ≤ 16 ∧ x = segments.map (fun s =>
        { target := max (-960) (min 0 s.1.toInt), duration := min 4095 s.2.toNat }) := by
  have hentry (s : BitVec 16 × BitVec 16) : segmentOf (word16 s.1 ++ word16 s.2) =
      some { target := max (-960) (min 0 s.1.toInt), duration := min 4095 s.2.toNat } := by
    have hword : unsignedOf [s.2.extractLsb' 8 8, s.2.extractLsb' 0 8] = s.2.toNat := unsignedOf_word16 s.2
    have hsigned : signedOf [s.1.extractLsb' 8 8, s.1.extractLsb' 0 8] = s.1.toInt := signedOf_word16 s.1
    simp only [word16, List.cons_append, List.nil_append, segmentOf, clampNat_zero, clamp, hword, hsigned]
  rw [decodeAll_map hentry, List.length_map]
  split
  · exact ⟨fun h => ⟨‹_›, (Option.some_inj.mp h).symm⟩, fun h => congrArg some h.2.symm⟩
  · exact iff_of_false (by simp) fun h => absurd h.1 ‹_›

/-! ### The references to a set -/

/-- R87: a record holds no reference to a set that it names nowhere. -/
theorem recordRefs_eq_zero (r : EqRecord) (s : SetRef) : recordRefs r s = 0 ↔
    ¬ (r.current = s ∨ r.phase = .waiting s ∨ (∃ p, r.phase = .fading s p) ∨ ∃ t, r.phase = .fading t (some s)) := by
  unfold recordRefs
  cases hp : r.phase with
  | idle => by_cases h : r.current = s <;> simp [h]
  | waiting q => by_cases h : r.current = s <;> by_cases hq : q = s <;> simp [h, hq]
  | fading t p =>
    cases p with
    | none => by_cases h : r.current = s <;> by_cases ht : t = s <;> simp [h, ht]
    | some p => by_cases h : r.current = s <;> by_cases ht : t = s <;> by_cases hq : p = s <;> simp [h, ht, hq]

/-- R87: no record names a set whose reference count is 0. -/
theorem refCount_eq_zero (e : EqEngine) (i : Fin 48) :
    (refCount e i == 0) = true ↔ ∀ k : Fin 24, recordRefs e.records[k] (.set i) = 0 := by
  rw [beq_iff_eq, refCount, List.sum_eq_zero_iff]
  simp only [List.mem_map, forall_exists_index, and_imp, forall_apply_eq_imp_iff₂, Vector.mem_toList_iff]
  exact ⟨fun h k => h _ (Vector.getElem_mem k.isLt), fun h r hr => by
    obtain ⟨k, hk, rfl⟩ := Vector.mem_iff_getElem.mp hr
    exact h ⟨k, hk⟩⟩

/-! ### The merged records -/

section
variable {m : Nat → Bool}

theorem mergeMasked_settings {old r : SpeedSettings}
    {weight staleHi staleLo failHi failLo attack release hyst a1 a0 b1 b0 c1 c0 band : Byte} :
    mergeMasked mergeSettings m 0 [.bytes [weight], .bytes [staleHi, staleLo], .bytes [failHi, failLo], .bytes [attack],
        .bytes [release], .bytes [hyst], .bytes [a1, a0], .bytes [b1, b0], .bytes [c1, c0], .bytes [band]] old =
      some r ↔
      r.weight = (if m 0 then max 1 (min 16 weight.toNat) else old.weight) ∧
      r.staleTime = (if m 1 then max 1 (min 4095 (256 * staleHi.toNat + staleLo.toNat)) else old.staleTime) ∧
      r.failTime = (if m 2 then max 1 (256 * failHi.toNat + failLo.toNat) else old.failTime) ∧
      r.attack = (if m 3 then max 1 (min 8 attack.toNat) else old.attack) ∧
      r.release = (if m 4 then max 1 release.toNat else old.release) ∧
      r.hysteresis = (if m 5 then min 48 hyst.toNat else old.hysteresis) ∧
      r.theta1 = (if m 6 then min 1200 (256 * a1.toNat + a0.toNat) else old.theta1) ∧
      r.theta2 = (if m 7 then min 1200 (256 * b1.toNat + b0.toNat) else old.theta2) ∧
      r.theta3 = (if m 8 then min 1200 (256 * c1.toNat + c0.toNat) else old.theta3) ∧
      r.bandHysteresis = (if m 9 then min 200 band.toNat else old.bandHysteresis) := by
  have hfail : min 65535 (256 * failHi.toNat + failLo.toNat) = 256 * failHi.toNat + failLo.toNat :=
    min_eq_right (by omega)
  have hrelease : min 255 release.toNat = release.toNat := min_eq_right (by omega)
  rw [← hfail, ← hrelease]
  simp only [← unsignedOf_two, ← clampNat_zero]
  refine Iff.trans
    (mergeMasked_sets (fun r x => { r with weight := x }) rfl rfl fun _ =>
    mergeMasked_sets (fun r x => { r with staleTime := x }) rfl rfl fun _ =>
    mergeMasked_sets (fun r x => { r with failTime := x }) rfl rfl fun _ =>
    mergeMasked_sets (fun r x => { r with attack := x }) rfl rfl fun _ =>
    mergeMasked_sets (fun r x => { r with release := x }) rfl rfl fun _ =>
    mergeMasked_sets (fun r x => { r with hysteresis := x }) rfl rfl fun _ =>
    mergeMasked_sets (fun r x => { r with theta1 := x }) rfl rfl fun _ =>
    mergeMasked_sets (fun r x => { r with theta2 := x }) rfl rfl fun _ =>
    mergeMasked_sets (fun r x => { r with theta3 := x }) rfl rfl fun _ =>
    mergeMasked_sets (fun r x => { r with bandHysteresis := x }) rfl rfl fun _ =>
    mergeMasked_nil) ⟨?_, ?_⟩
  · rintro ⟨_, h0, _, h1, _, h2, _, h3, _, h4, _, h5, _, h6, _, h7, _, h8, _, h9, rfl⟩
    exact ⟨h0, h1, h2, h3, h4, h5, h6, h7, h8, h9⟩
  · rintro ⟨h0, h1, h2, h3, h4, h5, h6, h7, h8, h9⟩
    exact ⟨_, h0, _, h1, _, h2, _, h3, _, h4, _, h5, _, h6, _, h7, _, h8, _, h9, rfl⟩

theorem mergeMasked_curve {old r : Curve} {points : List (BitVec 16 × Byte × Byte)} {o0 o1 o2 o3 : Byte} :
    mergeMasked mergeCurve m 0 [.entries (points.map fun p => word16 p.1 ++ [p.2.1, p.2.2]), .bytes [o0, o1, o2, o3]]
        old = some r ↔
      (if m 0 then points.length ≤ 12 ∧ r.points.Pairwise (fun x y => x.speed < y.speed) ∧
          r.points = points.map breakpointRead
        else r.points = old.points) ∧
      r.offsets = (if m 1 then #v[min 48 o0.toNat, min 48 o1.toNat, min 48 o2.toNat, min 48 o3.toNat]
        else old.offsets) := by
  simp only [← clampNat_zero]
  refine Iff.trans
    (mergeMasked_reads (fun r x => { r with points := x }) (pointsOf_eq_some points) rfl rfl fun _ =>
    mergeMasked_sets (fun r x => { r with offsets := x }) rfl rfl fun _ => mergeMasked_nil) ⟨?_, ?_⟩
  · rintro ⟨_, h0, _, h1, rfl⟩
    exact ⟨h0, h1⟩
  · rintro ⟨h0, h1⟩
    exact ⟨_, h0, _, h1, rfl⟩

theorem mergeMasked_eqSet {old r sections : List Section} :
    mergeMasked mergeEqSet m 0 [.entries (sections.map fun s =>
        word24 s.b0 ++ word24 s.b1 ++ word24 s.b2 ++ word24 s.a1 ++ word24 s.a2)] old = some r ↔
      if m 0 then sections.length ≤ 8 ∧ r = sections else r = old := by
  refine Iff.trans (mergeMasked_reads (fun _ x => x) (sectionsOf_eq_some sections) Option.map_id'.symm rfl fun _ =>
    mergeMasked_nil) ⟨?_, ?_⟩
  · rintro ⟨_, h0, rfl⟩
    exact h0
  · exact fun h0 => ⟨_, h0, rfl⟩

theorem mergeMasked_node {old r : NodeEntry} {lengthHi lengthLo maskHi maskLo : Byte} :
    mergeMasked mergeNodeEntry m 0 [.bytes [lengthHi, lengthLo], .bytes [maskHi, maskLo]] old = some r ↔
      r.crossfadeLength = (if m 0 then max 16 (min 256 (256 * lengthHi.toNat + lengthLo.toNat))
        else old.crossfadeLength) ∧
      r.attentionMask = if m 1 then (maskHi ++ maskLo).truncate 13 else old.attentionMask := by
  rw [truncate_word, ← unsignedOf_two, ← unsignedOf_two]
  refine Iff.trans
    (mergeMasked_sets (fun r x => { r with crossfadeLength := x }) rfl rfl fun _ =>
    mergeMasked_sets (fun r x => { r with attentionMask := x }) rfl rfl fun _ => mergeMasked_nil) ⟨?_, ?_⟩
  · rintro ⟨_, h0, _, h1, rfl⟩
    exact ⟨h0, h1⟩
  · rintro ⟨h0, h1⟩
    exact ⟨_, h0, _, h1, rfl⟩

theorem mergeMasked_ramp {old r : RampList} {segments : List (BitVec 16 × BitVec 16)} {loopStart loopCount : Byte} :
    mergeMasked mergeRamp m 0 [.entries (segments.map fun s => word16 s.1 ++ word16 s.2), .bytes [loopStart],
        .bytes [loopCount]] old = some r ↔
      (if m 0 then segments.length ≤ 16 ∧ r.segments = segments.map (fun s =>
          { target := max (-960) (min 0 s.1.toInt), duration := min 4095 s.2.toNat })
        else r.segments = old.segments) ∧
      (if m 1 then loopStart = optCode r.loopStart else r.loopStart = old.loopStart) ∧
      r.loopCount = (if m 2 then loopCount else old.loopCount) := by
  have hsegments : mergeRamp old 0 (.entries (segments.map fun s => word16 s.1 ++ word16 s.2)) =
      (if (segments.map fun s => word16 s.1 ++ word16 s.2).length ≤ 16 then
        decodeAll segmentOf (segments.map fun s => word16 s.1 ++ word16 s.2) else none).map
        fun x => { old with segments := x } := by
    simp only [mergeRamp]
    split <;> rfl
  refine Iff.trans
    (mergeMasked_reads (fun r x => { r with segments := x }) (segmentsOf_eq_some segments) hsegments rfl fun _ =>
    mergeMasked_reads (fun r x => { r with loopStart := x }) (optIndexOf_eq_some (by decide) loopStart) rfl rfl fun _ =>
    mergeMasked_sets (fun r x => { r with loopCount := x }) rfl rfl fun _ => mergeMasked_nil) ⟨?_, ?_⟩
  · rintro ⟨_, h0, _, h1, _, h2, rfl⟩
    exact ⟨h0, h1, h2⟩
  · rintro ⟨h0, h1, h2⟩
    exact ⟨_, h0, _, h1, _, h2, rfl⟩

end

/-- Settles O53, table by table. -/
theorem tableWriteWritesSpeedEqAndRampTables : Obligations.TableWriteWritesSpeedEqAndRampTables := by
  unfold Obligations.TableWriteWritesSpeedEqAndRampTables
  intro n q h i hi lo m ha hm
  obtain rfl : m = (256 * hi.toNat + lo.toNat).testBit := funext hm
  refine ⟨fun old weight staleHi staleLo failHi failLo attack release hyst a1 a0 b1 b0 c1 c0 band hzero hold => ?_,
    fun j old points o0 o1 o2 o3 groups hj hold hgroups hlen => ?_,
    fun j sections groups names hj hgroups hlen hnames => ?_, fun lengthHi lengthLo maskHi maskLo hzero => ?_,
    fun j old segments loopStart loopCount groups hj hold hgroups hlen => ?_⟩
  · obtain ⟨vs, hexec, hvs⟩ := exec_writeOne (id := 9) (groups := [[weight], [staleHi, staleLo], [failHi, failLo],
        [attack], [release], [hyst], [a1, a0], [b1, b0], [c1, c0], [band]]) q ha rfl
      (.fixed rfl <| .fixed rfl <| .fixed rfl <| .fixed rfl <| .fixed rfl <| .fixed rfl <| .fixed rfl <| .fixed rfl <|
        .fixed rfl <| .fixed rfl <| .nil 10) (selected_length_le (by simp))
    subst hzero hold
    refine writesOrRefuses_of 0 (stored := fun _ => n.tables.settings) (merge := mergeSettings)
      (ok := fun _ r => thresholdsRise r) (put := fun _ r => setTables fun t => { t with settings := r }) hexec (hvs _ _)
      rfl rfl (fun r => ?_) fun r => rfl
    rw [mergeMasked_settings, thresholdsRise, Bool.and_eq_true, decide_eq_true_eq, decide_eq_true_eq]
    simp only [and_assoc]
  · subst hgroups hold
    obtain ⟨vs, hexec, hvs⟩ := exec_writeOne (id := 10) q ha rfl
      (.counted (by decide) (fun _ => rfl) (length_le_selected hlen rfl) <| .fixed rfl <| .nil 2) hlen
    exact writesOrRefuses_of j (stored := fun i => n.tables.curves[i]) (merge := mergeCurve) (ok := noCheck)
      (put := fun i r => setTables fun t => { t with curves := putVec i r t.curves }) hexec (hvs _ _) rfl hj
      (fun r => noCheck_iff.trans mergeMasked_curve) fun r => rfl
  · subst hgroups
    obtain ⟨vs, hexec, hvs⟩ := exec_writeOne (id := 11) q ha rfl
      (.counted (by decide) (fun _ => rfl) (length_le_selected hlen rfl) <| .nil 1) hlen
    refine writesOrRefuses_of j (stored := fun i => n.tables.eqSets[i]) (merge := mergeEqSet)
      (ok := fun i _ => refCount n.eq i == 0)
      (put := fun i r => setTables fun t => { t with eqSets := putVec i r t.eqSets }) hexec (hvs _ _) rfl hj
      (fun r => ?_) fun r => rfl
    simp only [mergeMasked_eqSet, refCount_eq_zero, recordRefs_eq_zero, hnames]
  · obtain ⟨vs, hexec, hvs⟩ := exec_writeOne (id := 12) (groups := [[lengthHi, lengthLo], [maskHi, maskLo]]) q ha rfl
      (.fixed rfl <| .fixed rfl <| .nil 2) (selected_length_le (by simp))
    subst hzero
    rw [hexec]
    refine congrArg (fun x => Host.Outcome.next (State.mk x q)) ?_
    exact writeAt_writes (j := 0) (stored := fun _ => n.tables.nodeEntry) (ok := noCheck) (n := lanesTaken .setting n)
      (put := fun _ r => setTables fun t => { t with nodeEntry := r }) rfl
      ((hvs _ _).trans (mergeMasked_node.mpr ⟨rfl, rfl⟩)) rfl
  · subst hgroups hold
    obtain ⟨vs, hexec, hvs⟩ := exec_writeOne (id := 13) q ha rfl
      (.counted (by decide) (fun _ => rfl) (length_le_selected hlen rfl) <| .fixed rfl <| .fixed rfl <| .nil 3) hlen
    exact writesOrRefuses_of j (stored := fun i => n.tables.ramps[i]) (merge := mergeRamp) (ok := noCheck)
      (put := fun i r => setTables fun t => { t with ramps := putVec i r t.ramps }) hexec (hvs _ _) rfl hj
      (fun r => noCheck_iff.trans mergeMasked_ramp) fun r => rfl

end Sys2Proof.Machine
end

section
/-! PROOFS. TABLE_WRITE of a speaker element (R5, R27 to R29, R74, R75, R89, R90, R95). -/

namespace Sys2Proof.Machine

/-! ### The merged record -/

theorem decodeAll_eq_some {α β : Type} {f : List Byte → Option β} {encode : α → List Byte} {code : β → α}
    (h : ∀ a b, f (encode a) = some b ↔ a = code b) :
    ∀ (l : List α) (x : List β), decodeAll f (l.map encode) = some x ↔ l = x.map code
  | [], x => by
    rw [List.map_nil, decodeAll, Option.some_inj]
    cases x <;> simp
  | a :: l, x => by
    rw [List.map_cons, decodeAll]
    constructor
    · intro hx
      split at hx
      · rename_i b bs hb hbs
        cases hx
        rw [List.map_cons, (h a b).mp hb, (decodeAll_eq_some h l bs).mp hbs]
      · cases hx
    · intro hx
      cases x with
      | nil => cases hx
      | cons b bs =>
        obtain ⟨ha, hl⟩ := List.cons.inj hx
        rw [(h a b).mpr ha, (decodeAll_eq_some h l bs).mpr hl]

theorem tapsOf_eq_some (taps : List (Byte × BitVec 16)) (x : List Tap) :
    tapsOf (taps.map fun t => t.1 :: word16 t.2) = some x ↔
      taps.length ≤ 4 ∧ taps = x.map fun t => (indexCode t.source, t.weight) := by
  have hentry (t : Byte × BitVec 16) (tap : Tap) :
      tapOf (t.1 :: word16 t.2) = some tap ↔ t = (indexCode tap.source, tap.weight) := by
    have hword : unsignedOf [t.2.extractLsb' 8 8, t.2.extractLsb' 0 8] = t.2.toNat := unsignedOf_word16 t.2
    simp only [word16, tapOf, hword, BitVec.ofNat_toNat, BitVec.setWidth_eq, Option.map_eq_some_iff,
      indexOf_eq_some (k := 12) (by decide)]
    constructor
    · rintro ⟨source, hsource, rfl⟩
      exact Prod.ext hsource rfl
    · rintro rfl
      exact ⟨tap.source, rfl, rfl⟩
  rw [tapsOf, List.length_map]
  split
  · rw [decodeAll_eq_some hentry]
    exact (and_iff_right ‹_›).symm
  · exact iff_of_false (by simp) fun h => absurd h.1 ‹_›

theorem bandSetsOf_four {a b c d : Byte} {x : Vector SetRef 4} : bandSetsOf [[a], [b], [c], [d]] = some x ↔
    a = setCode x[0] ∧ b = setCode x[1] ∧ c = setCode x[2] ∧ d = setCode x[3] := by
  simp only [← setRefOf_eq_some, bandSetsOf]
  constructor
  · intro h
    split at h
    · cases h
      exact ⟨‹_›, ‹_›, ‹_›, ‹_›⟩
    · cases h
  · rintro ⟨ha, hb, hc, hd⟩
    rw [ha, hb, hc, hd]
    refine congrArg some (Vector.ext fun j hj => ?_)
    interval_cases j <;> rfl

/-- R74: band sets are a list of exactly four. -/
theorem bandSetsOf_eq_some (sets : List Byte) (x : Vector SetRef 4) :
    bandSetsOf (sets.map fun s => [s]) = some x ↔ sets = x.toList.map setCode := by
  have hlist : x.toList = [x[0], x[1], x[2], x[3]] := by
    refine List.ext_getElem (by simp) fun j hj _ => ?_
    rw [Vector.length_toList] at hj
    rw [Vector.getElem_toList]
    interval_cases j <;> rfl
  rw [hlist]
  match sets with
  | [a, b, c, d] => exact bandSetsOf_four.trans (by simp)
  | [] | [_] | [_, _] | [_, _, _] | _ :: _ :: _ :: _ :: _ :: _ => exact iff_of_false (by simp [bandSetsOf]) (by simp)

theorem word_append (hi lo : Byte) : BitVec.ofNat 16 (unsignedOf [hi, lo]) = hi ++ lo := by
  apply BitVec.eq_of_toNat_eq
  rw [unsignedOf_two, BitVec.toNat_ofNat, BitVec.toNat_append, ← Nat.shiftLeft_add_eq_or_of_lt (by omega),
    Nat.shiftLeft_eq]
  omega

theorem mergeMasked_speaker {m : Nat → Bool} {old r : Speaker}
    {enabled slot zone side along trimHi trimLo ramp alphaHi alphaLo linked : Byte} {sets : List Byte}
    {taps : List (Byte × BitVec 16)} :
    mergeMasked mergeSpeaker m 0 [.bytes [enabled], .bytes [slot], .bytes [zone], .bytes [side], .bytes [along],
        .bytes [trimHi, trimLo], .bytes [ramp], .bytes [alphaHi, alphaLo], .bytes [linked],
        .entries (sets.map fun s => [s]), .entries (taps.map fun t => t.1 :: word16 t.2)] old = some r ↔
      (if m 0 then enabled = flagCode r.enabled else r.enabled = old.enabled) ∧
      (if m 1 then slot = indexCode r.slot else r.slot = old.slot) ∧
      (if m 2 then zone = indexCode r.zone else r.zone = old.zone) ∧
      (if m 3 then side = sideCode r.side else r.side = old.side) ∧
      (if m 4 then along = endCode r.along else r.along = old.along) ∧
      r.trim = (if m 5 then max (-480) (min 96 (trimHi ++ trimLo).toInt) else old.trim) ∧
      (if m 6 then ramp = optCode r.ramp else r.ramp = old.ramp) ∧
      r.alpha = (if m 7 then alphaHi ++ alphaLo else old.alpha) ∧
      (if m 8 then linked = flagCode r.bandLinked else r.bandLinked = old.bandLinked) ∧
      (if m 9 then sets = r.bandSets.toList.map setCode else r.bandSets = old.bandSets) ∧
      (if m 10 then taps.length ≤ 4 ∧ taps = r.taps.map (fun t => (indexCode t.source, t.weight))
        else r.taps = old.taps) := by
  rw [← signedOf_two, ← word_append]
  refine Iff.trans
    (mergeMasked_reads (fun r x => { r with enabled := x }) (flagOf_eq_some enabled) rfl rfl fun _ =>
    mergeMasked_reads (fun r x => { r with slot := x }) (indexOf_eq_some (by decide) slot) rfl rfl fun _ =>
    mergeMasked_reads (fun r x => { r with zone := x }) (indexOf_eq_some (by decide) zone) rfl rfl fun _ =>
    mergeMasked_reads (fun r x => { r with side := x }) (sideOf_eq_some side) rfl rfl fun _ =>
    mergeMasked_reads (fun r x => { r with along := x }) (alongOf_eq_some along) rfl rfl fun _ =>
    mergeMasked_sets (fun r x => { r with trim := x }) rfl rfl fun _ =>
    mergeMasked_reads (fun r x => { r with ramp := x }) (optIndexOf_eq_some (by decide) ramp) rfl rfl fun _ =>
    mergeMasked_sets (fun r x => { r with alpha := x }) rfl rfl fun _ =>
    mergeMasked_reads (fun r x => { r with bandLinked := x }) (flagOf_eq_some linked) rfl rfl fun _ =>
    mergeMasked_reads (fun r x => { r with bandSets := x }) (bandSetsOf_eq_some sets) rfl rfl fun _ =>
    mergeMasked_reads (fun r x => { r with taps := x }) (tapsOf_eq_some taps) rfl rfl fun _ =>
    mergeMasked_nil) ⟨?_, ?_⟩
  · rintro ⟨_, h0, _, h1, _, h2, _, h3, _, h4, _, h5, _, h6, _, h7, _, h8, _, h9, _, h10, rfl⟩
    exact ⟨h0, h1, h2, h3, h4, h5, h6, h7, h8, h9, h10⟩
  · rintro ⟨h0, h1, h2, h3, h4, h5, h6, h7, h8, h9, h10⟩
    exact ⟨_, h0, _, h1, _, h2, _, h3, _, h4, _, h5, _, h6, _, h7, _, h8, _, h9, _, h10, rfl⟩

/-- R28: no other enabled speaker has the slot of an enabled record. -/
theorem noConflict_iff {t : Tables} {k : Fin 24} {r : Speaker} : (!slotConflict t k r) = true ↔
    (r.enabled = true → ∀ j : Fin 24, j ≠ k → t.speakers[j].enabled = true → t.speakers[j].slot ≠ r.slot) := by
  rw [Bool.not_eq_true', slotConflict, Bool.and_eq_false_imp]
  simp only [List.any_eq_false, List.mem_finRange, true_imp_iff, Bool.and_eq_true, bne_iff_ne, beq_iff_eq, not_and,
    and_imp]

/-! ### What the write brings about -/

/-- The node with a speaker's element written: a shelf alpha of 0 makes its shelf state 0. -/
def writtenSpeaker (k : Fin 24) (r : Speaker) (n : Node) : Node :=
  { n with
    tables := { n.tables with
      speakers := .ofFn fun j => if j = k then r else n.tables.speakers[j] }
    eq := { n.eq with
      records := .ofFn fun j => if j = k ∧ r.alpha = 0 then { n.eq.records[j] with lp := 0 } else n.eq.records[j] } }

/-- The node with a disabled speaker's element and levels, and an EQ engine. -/
def disabledNode (k : Fin 24) (r : Speaker) (n : Node) (e : EqEngine) : Node :=
  { n with
    tables := { n.tables with
      speakers := .ofFn fun j => if j = k then r else n.tables.speakers[j] }
    levels := { n.levels with
      speakers := .ofFn fun j => if j = k then { applied := -960, effective := -960, linear := 0 } else n.levels.speakers[j]
      clips := .ofFn fun j =>
        if j = k then { n.levels.clips[k] with running := false, last := false } else n.levels.clips[j] }
    eq := e }

section
variable {n : Node} {k : Fin 24} {r : Speaker}

theorem zeroShelfWhenOff_written :
    zeroShelfWhenOff k (setTables (fun t => { t with speakers := putVec k r t.speakers }) n) = writtenSpeaker k r n := by
  have hspeaker : (setTables (fun t => { t with speakers := putVec k r t.speakers }) n).tables.speakers[k] = r := by
    rw [setTables, putVec_at, if_pos rfl]
  rw [zeroShelfWhenOff, hspeaker, writtenSpeaker]
  by_cases hzero : r.alpha = 0
  · have hrecords : (Vector.ofFn fun j => if j = k then { n.eq.records[k] with lp := 0 } else n.eq.records[j]) =
        .ofFn fun j => if j = k ∧ r.alpha = 0 then { n.eq.records[j] with lp := 0 } else n.eq.records[j] := by
      refine congrArg Vector.ofFn (funext fun j => ?_)
      by_cases hj : j = k
      · subst hj
        simp only [hzero, and_self, if_true]
      · simp only [hj, false_and, if_false]
    rw [if_pos hzero, modifyRecord_ofFn rfl, setTables, hrecords, putVec_ofFn]
  · have hrecords : (Vector.ofFn fun j : Fin 24 => n.eq.records[j]) = n.eq.records := Vector.ofFn_getElem
    simp only [hzero, and_false, if_false, hrecords]
    rw [setTables, putVec_ofFn]

theorem writtenSpeaker_speaker : (writtenSpeaker k r n).tables.speakers[k] = r := by
  rw [writtenSpeaker, ofFn_at, if_pos rfl]

theorem writtenSpeaker_other {j : Fin 24} (h : j ≠ k) : (writtenSpeaker k r n).eq.records[j] = n.eq.records[j] := by
  rw [writtenSpeaker, ofFn_at, if_neg fun hj => h hj.1]

theorem writtenSpeaker_phase : (writtenSpeaker k r n).eq.records[k].phase = n.eq.records[k].phase := by
  rw [writtenSpeaker, ofFn_at]
  split <;> rfl

theorem writtenSpeaker_current : (writtenSpeaker k r n).eq.records[k].current = n.eq.records[k].current := by
  rw [writtenSpeaker, ofFn_at]
  split <;> rfl

/-- A write that leaves the speaker enabled or disabled as it was. -/
theorem writeSpeaker_keeps (mask : Nat) (h : r.enabled = n.tables.speakers[k].enabled) : writeSpeaker mask k r n =
    if mask.testBit 8 || mask.testBit 9 then request k (writtenSpeaker k r n) else writtenSpeaker k r n := by
  simp only [writeSpeaker, zeroShelfWhenOff_written, speakerRequest, ← h, Bool.and_not_self, Bool.not_and_self,
    Bool.false_eq_true, if_false, maskBit]

/-- R90, R95: a write that enables the speaker. -/
theorem writeSpeaker_enables (mask : Nat) (hold : n.tables.speakers[k].enabled = false) (hnew : r.enabled = true) :
    writeSpeaker mask k r n = enableSpeaker k (writtenSpeaker k r n) := by
  simp only [writeSpeaker, zeroShelfWhenOff_written, speakerRequest, hold, hnew, Bool.not_false, Bool.not_true,
    Bool.and_self, Bool.false_eq_true, if_false, if_true]

theorem disableLevels_written : disableLevels k (writtenSpeaker k r n) = disabledNode k r n (writtenSpeaker k r n).eq := by
  rw [disableLevels, modifyVec_ofFn, putVec_ofFn, writtenSpeaker, disabledNode]

/-- R29, R89: a write that disables the speaker. -/
theorem writeSpeaker_disables (mask : Nat) (hold : n.tables.speakers[k].enabled = true) (hnew : r.enabled = false) :
    writeSpeaker mask k r n =
      if mask.testBit 8 || mask.testBit 9 then
        request k (disableEq k (disabledNode k r n (writtenSpeaker k r n).eq))
      else disableEq k (disabledNode k r n (writtenSpeaker k r n).eq) := by
  simp only [writeSpeaker, zeroShelfWhenOff_written, speakerRequest, hold, hnew, Bool.not_false, Bool.not_true,
    Bool.and_self, Bool.false_eq_true, if_false, if_true, maskBit, disableSpeaker,
    disableLevels_written]

end

end Sys2Proof.Machine
end

section
/-! PROOFS. What a write that enables or disables a speaker does to its equaliser (R75, R84, R89, R90), and the write of
the speaker table. -/

namespace Sys2Proof.Machine

section
variable {n : Node} {k : Fin 24} {r : Speaker} {e : EqEngine} {last desired : SetRef}

theorem writtenSpeaker_tracker : (writtenSpeaker k r n).tracker = n.tracker := by rw [writtenSpeaker]

/-- R90, R95: a speaker that a write enables begins on its desired set with a flat shelf. -/
theorem enableSpeaker_written (hd : desired = bandEntry r n.tracker.band) :
    enableSpeaker k (writtenSpeaker k r n) = { writtenSpeaker k r n with
      eq := { (writtenSpeaker k r n).eq with
        flatShelf := .ofFn (fun j => if j = k then true else n.eq.flatShelf[j])
        records := .ofFn (fun j =>
          if j = k then { (writtenSpeaker k r n).eq.records[k] with current := desired } else n.eq.records[j]) } } := by
  have hdesired : desiredSet (writtenSpeaker k r n) k = desired := by
    rw [desiredSet_eq, writtenSpeaker_speaker, writtenSpeaker_tracker, hd]
  have hrecords : (Vector.ofFn fun j =>
      if j = k then { (writtenSpeaker k r n).eq.records[k] with current := desired }
      else (writtenSpeaker k r n).eq.records[j]) = .ofFn fun j =>
      if j = k then { (writtenSpeaker k r n).eq.records[k] with current := desired } else n.eq.records[j] := by
    refine congrArg Vector.ofFn (funext fun j => ?_)
    by_cases hj : j = k
    · rw [if_pos hj, if_pos hj]
    · rw [if_neg hj, if_neg hj, writtenSpeaker_other hj]
  have hshelf : (writtenSpeaker k r n).eq.flatShelf = n.eq.flatShelf := by rw [writtenSpeaker]
  rw [enableSpeaker, hdesired, requestAtOnce, modifyRecord_ofFn rfl, putVec_ofFn, hshelf]
  dsimp only
  rw [hrecords]

/-! ### The nodes of a disabled speaker -/

theorem disabledNode_speaker : (disabledNode k r n e).tables.speakers[k] = r := by
  rw [disabledNode, ofFn_at, if_pos rfl]

theorem disabledNode_tracker : (disabledNode k r n e).tracker = n.tracker := by rw [disabledNode]

theorem disabledNode_eq : (disabledNode k r n e).eq = e := by rw [disabledNode]

theorem disabledNode_modifyRecord (f : EqRecord → EqRecord) : modifyRecord k f (disabledNode k r n e) =
    disabledNode k r n { e with records := modifyVec k f e.records } := by
  rw [modifyRecord, disabledNode_eq, disabledNode, disabledNode]

/-- R90: a request of the disabled speaker makes its desired set current. -/
theorem request_disabledNode (hr : r.enabled = false) (hd : desired = bandEntry r n.tracker.band) :
    request k (disabledNode k r n e) = disabledNode k r n { e with
      records := .ofFn fun j => if j = k then { e.records[k] with current := desired } else e.records[j] } := by
  have hdesired : desiredSet (disabledNode k r n e) k = desired := by
    rw [desiredSet_eq, disabledNode_speaker, disabledNode_tracker, hd]
  rw [request_atOnce (.inl (by rw [disabledNode_speaker, hr])), hdesired, requestAtOnce, disabledNode_modifyRecord,
    modifyVec_ofFn]

theorem disabledNode_withEq (e' : EqEngine) : { disabledNode k r n e with eq := e' } = disabledNode k r n e' := by
  rw [disabledNode, disabledNode]

/-- An EQ engine with one record settled on a set. -/
def settledAt (k : Fin 24) (s : SetRef) (e : EqEngine) : EqEngine :=
  { e with records := .ofFn fun j => if j = k then { current := s } else e.records[j] }

theorem settledAt_self (s : SetRef) : (settledAt k s e).records[k] = { current := s } := by
  rw [settledAt, ofFn_at, if_pos rfl]

theorem settledAt_other {j : Fin 24} (s : SetRef) (h : j ≠ k) : (settledAt k s e).records[j] = e.records[j] := by
  rw [settledAt, ofFn_at, if_neg h]

theorem disabledNode_settles (hl : lastDesired e.records[k] = last) :
    modifyRecord k settleRecord (disabledNode k r n e) = disabledNode k r n (settledAt k last e) := by
  rw [disabledNode_modifyRecord, modifyVec_ofFn, settleRecord_eq, hl, settledAt]

/-- R75: the settled speaker's set, after the request of its write where there is one. -/
theorem settled_request (c : Bool) (hr : r.enabled = false) (hd : desired = bandEntry r n.tracker.band)
    (hk : e.records[k] = { current := last }) :
    (if c then request k (disabledNode k r n e) else disabledNode k r n e) =
      disabledNode k r n (settledAt k (if c then desired else last) e) := by
  cases c with
  | true =>
    rw [if_pos rfl, if_pos rfl, request_disabledNode hr hd, hk, settledAt]
  | false =>
    have hrecords : e.records = .ofFn fun j => if j = k then ({ current := last } : EqRecord) else e.records[j] := by
      refine Vector.ext fun j hj => ?_
      rw [Vector.getElem_ofFn]
      split
      · rename_i hjk
        rw [← hk, ← hjk]
        rfl
      · rfl
    rw [if_neg Bool.false_ne_true, if_neg Bool.false_ne_true, settledAt, ← hrecords]

/-! ### The EQ activity that the speaker leaves -/

/-- R89: a speaker with no EQ activity. -/
theorem disableEq_idle_eq (hp : e.records[k].phase = .idle) (hl : last = e.records[k].current) :
    disableEq k (disabledNode k r n e) = disabledNode k r n (settledAt k last e) := by
  have hphase : (disabledNode k r n e).eq.records[k].phase = .idle := by rw [disabledNode_eq, hp]
  simp only [disableEq, hphase]
  exact disabledNode_settles (by rw [lastDesired, hp, hl])

/-- R89: a waiting speaker leaves the wait queue. -/
theorem disableEq_waiting_eq (hp : e.records[k].phase = .waiting last) :
    disableEq k (disabledNode k r n e) =
      disabledNode k r n (settledAt k last { e with waiting := e.waiting.filter (· ≠ k) }) := by
  have hphase : (disabledNode k r n e).eq.records[k].phase = .waiting last := by rw [disabledNode_eq, hp]
  simp only [disableEq, hphase]
  rw [disabledNode_eq, disabledNode_withEq]
  exact disabledNode_settles (by simp only [lastDesired, hp])

section
variable {i : Fin 8} {g : Held} {t : SetRef} {p : Option SetRef}
  (hp : e.records[k].phase = .fading t p) (hi : e.slots[i] = some g) (hg : g.speaker = k)
  (hone : ∀ (f : Fin 8) (g : Held), e.slots[f] = some g → g.speaker = k → f = i)
include hp hi hg hone

/-- R84, R89: a fading speaker's slot is released. -/
theorem disableEq_fading (hl : last = p.getD t) : disableEq k (disabledNode k r n e) =
    handOver i (disabledNode k r n { settledAt k last e with
      slots := .ofFn fun f => if f = i then none else e.slots[f] }) := by
  have hphase : (disabledNode k r n e).eq.records[k].phase = .fading t p := by rw [disabledNode_eq, hp]
  have hslot : slotOf (disabledNode k r n e) k = some i := by
    refine slotOf_eq (h := g) ?_ hg ?_
    · rw [disabledNode_eq, hi]
    · rw [disabledNode_eq]
      exact hone
  have hlast : lastDesired e.records[k] = last := by
    cases p <;> simp only [lastDesired, hp, hl, Option.getD]
  have hslots : (settledAt k last e).slots = e.slots := by rw [settledAt]
  simp only [disableEq, hphase, hslot]
  rw [disabledNode_settles hlast, releaseSlot, putSlot, putVec_ofFn, disabledNode_eq, disabledNode_withEq, hslots]

theorem disableEq_fading_frees (hl : last = p.getD t) (hw : e.waiting = []) :
    disableEq k (disabledNode k r n e) = disabledNode k r n { settledAt k last e with
      slots := .ofFn fun f => if f = i then none else e.slots[f] } := by
  rw [disableEq_fading hp hi hg hone hl]
  refine handOver_idle ?_ ?_
  · rw [disabledNode_eq, ofFn_at, if_pos rfl]
  · rw [disabledNode_eq, settledAt, hw]

/-- R84: the slot goes to the head of the wait queue. -/
theorem disableEq_fading_handsOver {w : Fin 24} {others : List (Fin 24)} {s : SetRef} (hl : last = p.getD t)
    (hw : e.waiting = w :: others) (hq : e.records[w].phase = .waiting s) :
    disableEq k (disabledNode k r n e) = disabledNode k r n { settledAt k last e with
      waiting := others
      slots := .ofFn (fun f => if f = i then
        some { speaker := w, length := n.tables.nodeEntry.crossfadeLength, count := 0 } else e.slots[f])
      records := .ofFn (fun j => if j = w then
        { e.records[w] with phase := .fading s none, incoming := .replicate 8 {} }
        else (settledAt k last e).records[j]) } := by
  have hwk : w ≠ k := by
    rintro rfl
    rw [hp] at hq
    cases hq
  have hwait : (disabledNode k r n { settledAt k last e with
      slots := .ofFn fun f => if f = i then none else e.slots[f] }).eq.waiting = w :: others := by
    rw [disabledNode_eq, settledAt, hw]
  have hphase : (disabledNode k r n { settledAt k last e with
      slots := .ofFn fun f => if f = i then none else e.slots[f] }).eq.records[w].phase = .waiting s := by
    rw [disabledNode_eq, settledAt_other last hwk, hq]
  have hentry (e' : EqEngine) : (disabledNode k r n e').tables.nodeEntry = n.tables.nodeEntry := by rw [disabledNode]
  have hslots : (Vector.ofFn fun f => if f = i then
        some { speaker := w, length := n.tables.nodeEntry.crossfadeLength, count := 0 }
        else (Vector.ofFn fun f => if f = i then none else e.slots[f])[f]) =
      .ofFn fun f => if f = i then
        some { speaker := w, length := n.tables.nodeEntry.crossfadeLength, count := 0 } else e.slots[f] := by
    refine congrArg Vector.ofFn (funext fun f => ?_)
    rw [ofFn_at]
    split <;> rfl
  rw [disableEq_fading hp hi hg hone hl, handOver_next (by rw [disabledNode_eq, ofFn_at, if_pos rfl]) hwait hphase,
    disabledNode_eq, disabledNode_withEq, startFade_ofFn, hentry, disabledNode_eq, disabledNode_withEq]
  dsimp only
  rw [hslots, settledAt_other last hwk]

end

end

end Sys2Proof.Machine
end

section
/-! PROOFS. The write of the speaker table, assembled. -/

namespace Sys2Proof.Machine

/-- The EQ engine after a write that disables a speaker, its activity apart. -/
def endedEq (k : Fin 24) (c : SetRef) (e : EqEngine) : EqEngine :=
  { e with records := .ofFn fun j =>
      if j = k then
        { phase := .idle, current := c, running := .replicate 8 {}, incoming := .replicate 8 {}, lp := 0 }
      else e.records[j] }

theorem endedEq_other {k j : Fin 24} (c : SetRef) (e : EqEngine) (h : j ≠ k) :
    (endedEq k c e).records[j] = e.records[j] := by
  rw [endedEq, ofFn_at, if_neg h]

/-- An engine that differs from another in one speaker's record, the slots and the wait queue, that record settled. -/
theorem settledAt_eq_endedEq {k : Fin 24} {c : SetRef} {e old : EqEngine} (hgain : e.zoneGain = old.zoneGain)
    (hshelf : e.flatShelf = old.flatShelf) (hrest : ∀ j : Fin 24, j ≠ k → e.records[j] = old.records[j]) :
    settledAt k c e = { endedEq k c old with slots := e.slots, waiting := e.waiting } := by
  have hrecords : (Vector.ofFn fun j => if j = k then ({ current := c } : EqRecord) else e.records[j]) =
      .ofFn fun j => if j = k then { current := c } else old.records[j] := by
    refine congrArg Vector.ofFn (funext fun j => ?_)
    by_cases hj : j = k
    · rw [if_pos hj, if_pos hj]
    · rw [if_neg hj, if_neg hj, hrest j hj]
  rw [settledAt, hrecords, hgain, hshelf, endedEq]

/-- The same where the speaker's slot has gone to another speaker's record. -/
theorem settledAt_handed {k w : Fin 24} {c last : SetRef} {e old : EqEngine} {others : List (Fin 24)}
    {slots : Vector (Option Held) 8} {taken : EqRecord} (hgain : e.zoneGain = old.zoneGain)
    (hshelf : e.flatShelf = old.flatShelf) (hrest : ∀ j : Fin 24, j ≠ k → e.records[j] = old.records[j]) (hwk : w ≠ k) :
    settledAt k c { settledAt k last e with
      waiting := others
      slots := slots
      records := .ofFn fun j => if j = w then taken else (settledAt k last e).records[j] } =
    { endedEq k c old with
      waiting := others
      slots := slots
      records := .ofFn fun j => if j = w then taken else (endedEq k c old).records[j] } := by
  have hrecords : (Vector.ofFn fun j => if j = k then ({ current := c } : EqRecord)
      else (Vector.ofFn fun j => if j = w then taken else (settledAt k last e).records[j])[j]) =
      .ofFn fun j => if j = w then taken else (endedEq k c old).records[j] := by
    refine congrArg Vector.ofFn (funext fun j => ?_)
    rw [ofFn_at]
    by_cases hj : j = k
    · rw [if_pos hj, if_neg (hj ▸ Ne.symm hwk), hj, endedEq, ofFn_at, if_pos rfl]
    · rw [if_neg hj, settledAt_other last hj, endedEq_other c old hj, hrest j hj]
  have hlastGain : (settledAt k last e).zoneGain = (endedEq k c old).zoneGain := by rw [settledAt, endedEq, hgain]
  have hlastShelf : (settledAt k last e).flatShelf = (endedEq k c old).flatShelf := by rw [settledAt, endedEq, hshelf]
  rw [settledAt]
  dsimp only
  rw [hrecords, hlastGain, hlastShelf]

section
variable {n : Node} {k : Fin 24} {r : Speaker} {last desired : SetRef} (mask : Nat)
  (hold : n.tables.speakers[k].enabled = true) (hnew : r.enabled = false)
  (hd : desired = bandEntry r n.tracker.band)
include hold hnew hd

/-- R75, R89: the disabled speaker's set, once its EQ activity has left an engine. -/
theorem writeSpeaker_settles {e : EqEngine}
    (hended : disableEq k (disabledNode k r n (writtenSpeaker k r n).eq) = disabledNode k r n e)
    (hk : e.records[k] = { current := last }) :
    writeSpeaker mask k r n = disabledNode k r n
      (settledAt k (if mask.testBit 8 || mask.testBit 9 then desired else last) e) := by
  rw [writeSpeaker_disables mask hold hnew, hended, settled_request _ hnew hd hk]

theorem writeSpeaker_disables_idle (hp : n.eq.records[k].phase = .idle) (hl : last = n.eq.records[k].current) :
    writeSpeaker mask k r n = disabledNode k r n
      (endedEq k (if mask.testBit 8 || mask.testBit 9 then desired else last) n.eq) := by
  rw [← writtenSpeaker_phase (r := r)] at hp
  rw [← writtenSpeaker_current (r := r)] at hl
  rw [writeSpeaker_settles mask hold hnew hd (disableEq_idle_eq hp hl) (settledAt_self last)]
  refine congrArg (disabledNode k r n) ((settledAt_eq_endedEq (old := n.eq) ?_ ?_ fun j hj =>
    (settledAt_other last hj).trans (writtenSpeaker_other hj)).trans ?_)
  all_goals rw [settledAt, writtenSpeaker]
  rw [endedEq]

theorem writeSpeaker_disables_waiting (hp : n.eq.records[k].phase = .waiting last) :
    writeSpeaker mask k r n = disabledNode k r n
      { endedEq k (if mask.testBit 8 || mask.testBit 9 then desired else last) n.eq with
        waiting := n.eq.waiting.filter (· ≠ k) } := by
  rw [← writtenSpeaker_phase (r := r)] at hp
  rw [writeSpeaker_settles mask hold hnew hd (disableEq_waiting_eq hp) (settledAt_self last)]
  refine congrArg (disabledNode k r n) ((settledAt_eq_endedEq (old := n.eq) ?_ ?_ fun j hj => ?_).trans ?_)
  · rw [settledAt, writtenSpeaker]
  · rw [settledAt, writtenSpeaker]
  · rw [settledAt_other last hj, writtenSpeaker_other hj]
  · rw [settledAt, writtenSpeaker, endedEq]

section
variable {i : Fin 8} {g : Held} {t : SetRef} {p : Option SetRef}
  (hp : n.eq.records[k].phase = .fading t p) (hl : last = p.getD t) (hi : n.eq.slots[i] = some g) (hg : g.speaker = k)
  (hone : ∀ (f : Fin 8) (g : Held), n.eq.slots[f] = some g → g.speaker = k → f = i)
include hp hl hi hg hone

theorem writeSpeaker_disables_fading (hw : n.eq.waiting = []) :
    writeSpeaker mask k r n = disabledNode k r n
      { endedEq k (if mask.testBit 8 || mask.testBit 9 then desired else last) n.eq with
        slots := .ofFn fun f => if f = i then none else n.eq.slots[f] } := by
  have hslots : (writtenSpeaker k r n).eq.slots = n.eq.slots := by rw [writtenSpeaker]
  have hwaiting : (writtenSpeaker k r n).eq.waiting = n.eq.waiting := by rw [writtenSpeaker]
  rw [← writtenSpeaker_phase (r := r)] at hp
  rw [← hslots] at hi hone
  have hended := disableEq_fading_frees (n := n) (r := r) hp hi hg hone hl (hwaiting.trans hw)
  rw [hslots] at hended
  rw [writeSpeaker_settles mask hold hnew hd hended (settledAt_self last)]
  refine congrArg (disabledNode k r n) ((settledAt_eq_endedEq (old := n.eq) ?_ ?_ fun j hj => ?_).trans ?_)
  · rw [settledAt, writtenSpeaker]
  · rw [settledAt, writtenSpeaker]
  · rw [settledAt_other last hj, writtenSpeaker_other hj]
  · rw [settledAt, writtenSpeaker, endedEq]

theorem writeSpeaker_disables_handsOver {w : Fin 24} {others : List (Fin 24)} {s : SetRef}
    (hw : n.eq.waiting = w :: others) (hq : n.eq.records[w].phase = .waiting s) :
    writeSpeaker mask k r n = disabledNode k r n
      { endedEq k (if mask.testBit 8 || mask.testBit 9 then desired else last) n.eq with
        waiting := others
        slots := .ofFn fun f => if f = i then
          some { speaker := w, length := n.tables.nodeEntry.crossfadeLength, count := 0 } else n.eq.slots[f]
        records := .ofFn fun j => if j = w then
          { n.eq.records[w] with phase := .fading s none, incoming := .replicate 8 {} }
          else (endedEq k (if mask.testBit 8 || mask.testBit 9 then desired else last) n.eq).records[j] } := by
  have hslots : (writtenSpeaker k r n).eq.slots = n.eq.slots := by rw [writtenSpeaker]
  have hwaiting : (writtenSpeaker k r n).eq.waiting = n.eq.waiting := by rw [writtenSpeaker]
  have hgain : (writtenSpeaker k r n).eq.zoneGain = n.eq.zoneGain := by rw [writtenSpeaker]
  have hshelf : (writtenSpeaker k r n).eq.flatShelf = n.eq.flatShelf := by rw [writtenSpeaker]
  have hwk : w ≠ k := by
    rintro rfl
    rw [hp] at hq
    cases hq
  have hrecord : (writtenSpeaker k r n).eq.records[w] = n.eq.records[w] := writtenSpeaker_other hwk
  have hself : (Vector.ofFn fun j => if j = w then
      { n.eq.records[w] with phase := .fading s none, incoming := .replicate 8 {} }
      else (settledAt k last (writtenSpeaker k r n).eq).records[j])[k] = { current := last } := by
    rw [ofFn_at, if_neg (Ne.symm hwk), settledAt_self]
  rw [← writtenSpeaker_phase (r := r)] at hp
  rw [← hslots] at hi hone
  rw [← hrecord] at hq
  have hended := disableEq_fading_handsOver (n := n) (r := r) hp hi hg hone hl (hwaiting.trans hw) hq
  rw [hrecord, hslots] at hended
  rw [writeSpeaker_settles mask hold hnew hd hended hself]
  exact congrArg (disabledNode k r n) (settledAt_handed hgain hshelf (fun j hj => writtenSpeaker_other hj) hwk)

end

end

/-- Settles O51: the merged record is written, and the speaker enabled, disabled or requested for. -/
theorem tableWriteWritesSpeakers : Obligations.TableWriteWritesSpeakers := by
  unfold Obligations.TableWriteWritesSpeakers
  intro n q h i hi lo m k old enabled slot zone side along trimHi trimLo ramp alphaHi alphaLo linked sets taps groups c
    reads ha hm hk hold hgroups hlen hc hreads
  obtain rfl : m = (256 * hi.toNat + lo.toNat).testBit := funext hm
  subst hgroups hold hc
  obtain ⟨vs, hexec, hvs⟩ := exec_writeOne (id := 2) q ha rfl
    (.fixed rfl <| .fixed rfl <| .fixed rfl <| .fixed rfl <| .fixed rfl <| .fixed rfl <| .fixed rfl <| .fixed rfl <|
      .fixed rfl <| .counted (by decide) (fun _ => rfl) (length_le_selected hlen rfl) <|
      .counted (by decide) (fun _ => rfl) (length_le_selected hlen rfl) <| .nil 11) hlen
  obtain ⟨hwrites, hrefuses⟩ := writesOrRefuses_of k (stored := fun i => n.tables.speakers[i]) (merge := mergeSpeaker)
    (ok := fun i r => !slotConflict n.tables i r) (put := writeSpeaker (256 * hi.toNat + lo.toNat)) (reads := reads)
    (written := fun r => writeSpeaker (256 * hi.toNat + lo.toNat) k r (lanesTaken .setting n)) hexec (hvs _ _) rfl hk
    (fun r => by rw [mergeMasked_speaker, noConflict_iff, hreads]; simp only [and_assoc]) fun r => rfl
  refine ⟨hrefuses, fun r x desired hr hdesired hx => ?_⟩
  have hx' : x = writtenSpeaker k r (lanesTaken .setting n) := by rw [hx, writtenSpeaker]; rfl
  have hwritten : exec _ ⟨n, q⟩ = .next ⟨writeSpeaker (256 * hi.toNat + lo.toNat) k r (lanesTaken .setting n), q⟩ :=
    hwrites r hr
  refine ⟨fun hsame => ?_, fun hwas hnow => ?_, fun hwas hnow last y hy => ?_⟩
  · rw [hwritten, writeSpeaker_keeps (n := lanesTaken .setting n) _ hsame, hx']
  · rw [hwritten, writeSpeaker_enables (n := lanesTaken .setting n) _ hwas hnow, enableSpeaker_written (n := lanesTaken .setting n) hdesired, hx']
    rfl
  · have hy' : y = disabledNode k r (lanesTaken .setting n) (endedEq k (if (256 * hi.toNat + lo.toNat).testBit 8 ||
        (256 * hi.toNat + lo.toNat).testBit 9 then desired else last) n.eq) := by
      rw [hy, hx, disabledNode, endedEq]
      rfl
    refine ⟨fun hp hl => ?_, fun hp => ?_, fun e g t p hp hl hi hg hone => ⟨fun hw => ?_, fun w others s hw hq => ?_⟩⟩
    · rw [hwritten, writeSpeaker_disables_idle (n := lanesTaken .setting n) _ hwas hnow hdesired hp hl, hy']
      rfl
    · rw [hwritten, writeSpeaker_disables_waiting (n := lanesTaken .setting n) _ hwas hnow hdesired hp, hy']
      rfl
    · rw [hwritten, writeSpeaker_disables_fading (n := lanesTaken .setting n) _ hwas hnow hdesired hp hl hi hg hone hw,
        hy']
      rfl
    · rw [hwritten, writeSpeaker_disables_handsOver (n := lanesTaken .setting n) _ hwas hnow hdesired hp hl hi hg hone
        hw hq, hy']
      rfl

end Sys2Proof.Machine
end
